-- ==== Sys2Proof/Word.lean ====
section
/-! DEFINITION. The bit-vector types of what the station sends, receives and converts.
Quantities, counters and times are integers in fixed units (spec/00_scope.md, Numbers and units) and are held as `Int` or `Nat`. -/

namespace Sys2Proof

/-- One byte of a bus frame or of the configuration record (R156, R176). -/
abbrev Byte := BitVec 8

/-- A station address as the six low bits of a contention byte carry it (R156). -/
abbrev Addr := BitVec 6

/-- A 12-bit conversion code (R27). -/
abbrev Code := BitVec 12

/-- A two-byte field (R156). -/
abbrev Half := BitVec 16

/-- The bytes of a frame, byte 0 first (R156). -/
abbrev Frame := List Byte

end Sys2Proof
end

