-- ==== Sys2Proof/Config.lean ====
section
/-! DEFINITION. The free values: what the spec leaves without a value although the station goes on.
None has a body, so nothing can be proved of one. Each is applied to `State.freeDraws`, a counter that the
reply that uses it advances. -/

namespace Sys2Proof

/-- The two bytes RDST reports for RET_T while RET_T is not VALID (R188 names the field, no rule gives its value then). Log 10. -/
opaque Config.reportedReturnTemp : Nat → Half

/-- The two bytes RDST reports for RET_W while RET_W is not VALID (R188). Log 10. -/
opaque Config.reportedReturnMoisture : Nat → Half

/-- The phase nibble RDST reports while no transition is pending (R188). Log 11. -/
opaque Config.absentPhase : Nat → BitVec 4

/-- The two bytes RDST reports for a last measured speed above 65535 rpm (R55 allows one, R188 gives it two bytes). Log 12. -/
opaque Config.reportedFastRpm : Nat → Half

end Sys2Proof
end

