-- ==== Sys2Proof/Syntax.lean ====
section
/-! DEFINITION. The commands: one constructor of `Instr` per row of spec/opcode_table.json, with the operands the event brings
from outside the station (INVENTORY.md, Instructions; logs 4 to 6, 9 and 17). -/

namespace Sys2Proof

/-- The ratio of a strap pin's voltage to the supply (R175). -/
structure Ratio where
  num : Nat
  den : Nat
  deriving DecidableEq, Repr

/-- The two dampers the output stage drives (spec/08, R142 to R147). -/
inductive Damper where
  | bypass
  | outdoor
  deriving DecidableEq, Repr

/-- Which of the two works of one decision timer expiry is taken first (R147). -/
inductive DecisionOrder where
  | judgementFirst
  | stagesFirst
  deriving DecidableEq, Repr

/-- Which block acts first on one report of the peer table (R90, R102). -/
inductive ReportOrder where
  | reconcilerFirst
  | allocatorFirst
  deriving DecidableEq, Repr

/-- The expiry of a silence timer: whose record, and the time in ms since that timer last started, by the clock that sends the expiry. When an
accepted ANNOUNCE taken first has restarted the timer, that time is short of the point, and the expiry does not happen (R88, R89; log 5). -/
structure SilenceExpiry where
  peer : Addr
  elapsed : Nat
  deriving DecidableEq, Repr

/-- The commands. `frame` is a whole received frame, its CRC bytes included; `source` and `argument` are those of a valid QUERY
addressed to this station (R159). -/
inductive Instr where
  /-- COLD_START (R174): the straps' ratios and the bytes the configuration memory returns. -/
  | coldStart (addrHi addrLo : Ratio) (record : List Byte)
  /-- CONFIG_END (R179). -/
  | configEnd
  /-- SCAN_TIMER_EXPIRY (R40): the level of SCAN_IN at the expiry (R43). -/
  | scanTimerExpiry (scanIn : Bool)
  /-- SCAN_OUT_PULSE_END (R41). -/
  | scanOutPulseEnd
  /-- SCAN_IN_RISING_EDGE (R42). -/
  | scanInRisingEdge
  /-- CONVERSION_COMPLETE (R46): the converted code. -/
  | conversionComplete (code : Code)
  /-- ROT_IN_RISING_EDGE (R54). -/
  | rotInRisingEdge
  /-- GATE_WINDOW_EXPIRY (R55). -/
  | gateWindowExpiry
  /-- DECISION (R2). -/
  | decision (order : DecisionOrder)
  /-- FORCE_BYPASS_TIMER_EXPIRY (R22). -/
  | forceBypassTimerExpiry
  /-- HOLD_TIMER_EXPIRY (R65). -/
  | holdTimerExpiry
  /-- SILENCE_COASTING (R85), at the record of a peer. -/
  | silenceCoasting (expiry : SilenceExpiry) (order : ReportOrder)
  /-- SILENCE_LOST (R86), at the record of a peer. -/
  | silenceLost (expiry : SilenceExpiry)
  /-- SILENCE_FREED (R87), at the record of a peer. -/
  | silenceFreed (expiry : SilenceExpiry) (order : ReportOrder)
  /-- ANNOUNCE (R79). -/
  | announce (frame : Frame) (order : ReportOrder)
  /-- INTENT (R120). -/
  | intent (frame : Frame)
  /-- REPLY_RECEIVED (R159). -/
  | replyReceived (frame : Frame)
  /-- RDST (R188). -/
  | rdst (source : Addr) (argument : Half)
  /-- RDCT (R188). -/
  | rdct (source : Addr) (argument : Half)
  /-- RDPR (R93). -/
  | rdpr (source : Addr) (argument : Half)
  /-- CLRC (R187). -/
  | clrc (source : Addr) (argument : Half)
  /-- RSTW (R184). -/
  | rstw (source : Addr) (argument : Half)
  /-- FBYP (R22). -/
  | fbyp (source : Addr) (argument : Half)
  /-- FREL (R22). -/
  | frel (source : Addr) (argument : Half)
  /-- CLST (R141). -/
  | clst (source : Addr) (argument : Half)
  /-- UNKNOWN (R187): also the request kind, 0 or 9 to 255. -/
  | unknown (source : Addr) (kind : Byte) (argument : Half)
  /-- LINE_IDLE (R163). -/
  | lineIdle
  /-- CONTENTION_LOST (R164): the contention byte of the station that drove the dominant bit. -/
  | contentionLost (rival : Byte)
  /-- FRAME_SENT_WHOLE (R165). -/
  | frameSentWhole
  /-- FRAME_ABANDONED (R166). -/
  | frameAbandoned
  /-- BUS_STUCK (R155). -/
  | busStuck
  /-- ANNOUNCEMENT_TIMER_EXPIRY (R160). -/
  | announcementTimerExpiry
  /-- LAST_HEARD_TIMER_EXPIRY (R170). -/
  | lastHeardTimerExpiry
  /-- CLASH_TIMER_EXPIRY (R168). -/
  | clashTimerExpiry
  /-- LISTEN_TIMER_EXPIRY (R180). -/
  | listenTimerExpiry
  /-- INTENT_WINDOW_EXPIRY (R122). -/
  | intentWindowExpiry
  /-- SLOT_TIMER_EXPIRY (R123). -/
  | slotTimerExpiry
  /-- BACKOFF_TIMER_EXPIRY (R119). -/
  | backoffTimerExpiry
  /-- OFF_DELAY_TIMER_EXPIRY (R128). -/
  | offDelayTimerExpiry
  /-- IDLE_TIMER_EXPIRY (R137). -/
  | idleTimerExpiry
  /-- PURGE_TIMER_EXPIRY (R138). -/
  | purgeTimerExpiry
  /-- SETTLE_TIMER_EXPIRY (R145), of one damper. -/
  | settleTimerExpiry (damper : Damper)
  /-- POLARITY_PHASE_END (R142). -/
  | polarityPhaseEnd
  /-- WARM_RESTART (R184): the outcome of the RSTW REPLY, sent whole or abandoned. -/
  | warmRestart (sentWhole : Bool)
  /-- QUERY_FOR_OTHER_STATION (R159). -/
  | queryForOtherStation (frame : Frame)
  /-- FRAMING_ERROR (R154). -/
  | framingError
  /-- BAD_LENGTH (R154). -/
  | badLength
  /-- START_BIT (R154). -/
  | startBit
  deriving DecidableEq, Repr

end Sys2Proof
end

