-- ==== Sys2Proof/WellFormed.lean ====
section
/-! DEFINITION. Which terms of `Instr` spell an event the environment can bring. The machine does not rely on it: every command
has a meaning on every operand; statements that need it say so. -/

namespace Sys2Proof

/-- A pin's voltage lies between 0 and the supply, and the supply is up (R175). -/
def Ratio.wf (r : Ratio) : Bool := decide (0 < r.den ∧ r.num ≤ r.den)

/-- The kind code of a frame: bits 7 to 4 of byte 1 (R156). -/
def frameKindCode (f : Frame) : Nat := ((f[1]?).getD 0).toNat / 16

/-- A frame has a five-byte header and as many body bytes, at most 48, as byte 2 says (R156). -/
def frameWhole (f : Frame) : Bool :=
  decide (((f[2]?).getD 0).toNat ≤ 48 ∧ f.length = 5 + ((f[2]?).getD 0).toNat)

/-- A well-formed command: the straps are divider ratios and the memory returns 84 bytes (R175, R176); a received frame is whole and
of the kind its row names (R156); an unknown request kind is 0 or 9 to 255 (R187). -/
def Instr.wf : Instr → Bool
  | .coldStart hi lo record => hi.wf && lo.wf && decide (record.length = 84)
  | .announce f _ => frameWhole f && decide (frameKindCode f = 2)
  | .intent f => frameWhole f && decide (frameKindCode f = 1)
  | .replyReceived f => frameWhole f && decide (frameKindCode f = 4)
  | .queryForOtherStation f => frameWhole f && decide (frameKindCode f = 3)
  | .unknown _ kind _ => decide (kind.toNat = 0 ∨ 9 ≤ kind.toNat)
  | .configEnd | .scanTimerExpiry _ | .scanOutPulseEnd | .scanInRisingEdge | .conversionComplete _
  | .rotInRisingEdge | .gateWindowExpiry | .decision _ | .forceBypassTimerExpiry | .holdTimerExpiry
  | .silenceCoasting _ _ | .silenceLost _ | .silenceFreed _ _
  | .rdst _ _ | .rdct _ _ | .rdpr _ _ | .clrc _ _ | .rstw _ _ | .fbyp _ _ | .frel _ _ | .clst _ _
  | .lineIdle | .contentionLost _ | .frameSentWhole | .frameAbandoned | .busStuck
  | .announcementTimerExpiry | .lastHeardTimerExpiry | .clashTimerExpiry | .listenTimerExpiry
  | .intentWindowExpiry | .slotTimerExpiry | .backoffTimerExpiry | .offDelayTimerExpiry
  | .idleTimerExpiry | .purgeTimerExpiry | .settleTimerExpiry _ | .polarityPhaseEnd | .warmRestart _
  | .framingError | .badLength | .startBit => true

end Sys2Proof
end

