-- ==== Sys2Proof/Machine/Settings.lean ====
section
/-! DEFINITION. The configuration a station runs on: the parameters of the record of R176 and their defaults. -/

namespace Sys2Proof.Machine

/-- A timer: `none` is stopped, `some n` is running with n ms left (spec/00_scope.md, Time). -/
abbrev Timer := Option Nat

/-- Seconds in milliseconds. -/
def secs (n : Nat) : Nat := n * 1000

/-- Minutes in milliseconds. -/
def mins (n : Nat) : Nat := n * 60000

/-- The nine quantities, in index order (spec/03, section 3.1). -/
inductive Quantity where
  | outT | outW | retT | retW | exhT | heatDem | coolDem | bypFb | oaFb
  deriving DecidableEq, Repr

/-- The nine quantities in index order. -/
def Quantity.all : List Quantity := [.outT, .outW, .retT, .retW, .exhT, .heatDem, .coolDem, .bypFb, .oaFb]

/-- The quantity of an index 0 to 8; NONE for any other code (R176, R177). -/
def Quantity.ofIndex (n : Nat) : Option Quantity := Quantity.all[n]?

/-- The scan sources (R40 to R43). -/
inductive ScanSource where
  | internal | external | gated | echo
  deriving DecidableEq, Repr

/-- What the allocator counts a LOST member at (R98). -/
inductive LostPolicy where
  | release | reserve
  deriving DecidableEq, Repr

/-- What sets RELIEF_RUN while the fan control is suspended (R130). -/
inductive IsolationPolicy where
  | hold | default
  deriving DecidableEq, Repr

/-- The two modes a fallback decision may take (R6). -/
inductive FallbackMode where
  | bypass | recover
  deriving DecidableEq, Repr

/-- The loaded configuration, every parameter of R176. Units are those of the table. -/
structure Settings where
  riserGroup : Nat
  plantGroup : Nat
  height : Nat
  announcePeriod : Nat
  decisionPeriod : Nat
  dwell : Nat
  scanSource : ScanSource
  scanPeriod : Nat
  scanList : List Nat
  channelMap : List (Option Quantity)
  fmin : Nat
  qs : Nat
  lc : Nat
  brel : Nat
  cnom : Nat
  hOn : Int
  hOff : Int
  dTrec : Nat
  recBand : Nat
  me : Nat
  mr : Nat
  hb : Nat
  sr : Nat
  tlow : Int
  minUseful : Nat
  smin : Nat
  purgeInterval : Nat
  purgeDuration : Nat
  purgeSpeed : Nat
  tf : Int
  frostBand : Nat
  lostPolicy : LostPolicy
  fanOwner : Bool
  isolationPolicy : IsolationPolicy
  fanDefaultOn : Bool
  fallbackMode : FallbackMode
  offDelay : Nat
  staggerInterval : Nat
  intentWindow : Nat
  lapse : Int
  reach : Nat
  outlier : Nat
  holdLimit : Nat
  gateWindow : Nat
  pulsesPerRev : Nat
  strokeTime : Nat
  deriving DecidableEq, Repr

/-- The defaults, the last column of R176. -/
def defaultSettings : Settings where
  riserGroup := 0
  plantGroup := 0
  height := 0
  announcePeriod := 10
  decisionPeriod := 30
  dwell := 6
  scanSource := .internal
  scanPeriod := 1000
  scanList := [0, 1, 2, 3, 4, 5, 6, 7, 8, 9]
  channelMap := [some .outT, some .outW, some .retT, some .retW, some .exhT, some .heatDem, some .coolDem, some .bypFb,
    some .oaFb, none]
  fmin := 200
  qs := 10000
  lc := 0
  brel := 0
  cnom := 0
  hOn := 2500
  hOff := 4000
  dTrec := 30
  recBand := 10
  me := 200
  mr := 300
  hb := 100
  sr := 800
  tlow := 50
  minUseful := 25
  smin := 100
  purgeInterval := 30
  purgeDuration := 20
  purgeSpeed := 150
  tf := -10
  frostBand := 20
  lostPolicy := .reserve
  fanOwner := false
  isolationPolicy := .hold
  fanDefaultOn := false
  fallbackMode := .bypass
  offDelay := 120
  staggerInterval := 5
  intentWindow := 2
  lapse := -65
  reach := 200
  outlier := 40
  holdLimit := 10
  gateWindow := 20
  pulsesPerRev := 1
  strokeTime := 90

/-- The quantity a channel carries, NONE for a channel past the map (R38). -/
def Settings.quantityOn (c : Settings) (channel : Nat) : Option Quantity := (c.channelMap[channel]?).getD none

/-- A quantity is scanned when it is mapped to a channel that the scan list holds (R38). -/
def Settings.scanned (c : Settings) (q : Quantity) : Bool := c.scanList.any fun ch => c.quantityOn ch = some q

end Sys2Proof.Machine
end

