-- ==== Sys2Proof/Machine/Arith.lean ====
section
/-! DEFINITION. The formulas of spec/02_fixed_point_arithmetic.md, each a function of its inputs on exact integers (R26).
`/` on `Nat`, and on `Int` with a positive divisor, is the floor of the quotient. -/

namespace Sys2Proof.Machine

/-- A value clamped to a range (spec/00_scope.md, Clamping). -/
def clampInt (lo hi v : Int) : Int := max lo (min hi v)

/-- A natural number clamped to a range. -/
def clampNat (lo hi v : Nat) : Nat := max lo (min hi v)

/-- n / d rounded to the nearest integer, halves away from zero (spec/00_scope.md, Rounding; R26). -/
def roundHalfAway (n : Int) (d : Nat) : Int :=
  if 0 ≤ n then (2 * n + d) / (2 * d) else -((2 * (-n) + d) / (2 * d))

/-- A counter incremented, saturating at a limit (spec/00_scope.md, Counters). -/
def satInc (limit n : Nat) : Nat := min limit (n + 1)

/-- A device counter incremented, saturating at 65535. -/
def bump (n : Nat) : Nat := satInc 65535 n

/-- The code used for scaling, none for a rejected code (R27). -/
def scalingCode (c : Nat) : Option Nat :=
  if c ≤ 327 then none
  else if c ≤ 409 then some 410
  else if c ≤ 3686 then some c
  else if c ≤ 3768 then some 3686
  else none

/-- The span of a quantity: its values at codes 410 and 3686 (R28). -/
def span : Quantity → Int × Int
  | .outT | .retT | .exhT => (-400, 600)
  | .outW | .retW => (0, 3000)
  | .heatDem | .coolDem | .bypFb | .oaFb => (0, 1000)

/-- The value of an accepted code (R28). -/
def scale (q : Quantity) (c : Nat) : Int := (span q).1 + ((c : Int) - 410) * ((span q).2 - (span q).1) / 3276

/-- The sample a code gives: a value, or a rejected sample (R27, R28, R46). -/
def sampleOf (q : Quantity) (code : Nat) : Option Int := (scalingCode code).map (scale q)

/-- The enthalpy of moist air (R29). -/
def enthalpy (t w : Int) : Int :=
  let t := clampInt (-400) 600 t
  let w := clampInt 0 3000 w
  roundHalfAway (10060000 * t + 2501000 * w + 186 * w * t) 1000000

/-- The correction of a temperature observed at height hp to height h (R30). -/
def heightCorrection (lapse : Int) (h hp : Nat) : Int :=
  roundHalfAway (lapse * (((min h 600 : Nat) : Int) - ((min hp 600 : Nat) : Int))) 1000

/-- A peer's temperature moved to the own height (R30). -/
def correctedTemp (lapse : Int) (h hp : Nat) (tp : Int) : Int := clampInt (-400) 600 (tp + heightCorrection lapse h hp)

/-- The distance between two heights, both clamped (R61). -/
def heightDistance (h hp : Nat) : Nat := ((min h 600 : Nat) - (min hp 600 : Nat) : Int).natAbs

/-- Insertion into an ascending list, equal values kept (R31). -/
def insertAsc (x : Int) : List Int → List Int
  | [] => [x]
  | y :: ys => if x ≤ y then x :: y :: ys else y :: insertAsc x ys

/-- A list in ascending order (R31). -/
def sortAsc : List Int → List Int
  | [] => []
  | x :: xs => insertAsc x (sortAsc xs)

/-- The lower median, none of an empty list (R31). -/
def lowerMedian (l : List Int) : Option Int := (sortAsc l)[(l.length - 1) / 2]?

/-- The WFC budget of a reference enthalpy, none while the reference is INVALID (R32). -/
def wfcBudget (cnom : Nat) (hOn hOff : Int) : Option Int → Nat
  | none => 0
  | some ho =>
    if ho ≤ hOn then cnom
    else if hOff ≤ ho then 0
    else cnom * (hOff - ho).toNat / (hOff - hOn).toNat

/-- The wanted fraction Fw (R33). -/
def wantedFraction (fmin dc : Nat) : Nat := fmin + (1000 - fmin) * dc / 1000

/-- The economizer relief request (R33). -/
def reliefRequestOf (fmin qs fw : Nat) : Nat := (fw - fmin) * qs / 1000

/-- The relief cap (R33). -/
def reliefCapOf (fmin qs : Nat) : Nat := (1000 - fmin) * qs / 1000

/-- The granted fraction of a relief grant in use (R34). -/
def grantedFraction (fw fmin qs g : Nat) : Nat := min fw (fmin + g * 1000 / qs)

/-- The WFC request (R35). -/
def wfcRequestOf (lc dc : Nat) : Nat := dc * lc / 1000

/-- The valve command of a WFC grant in use (R35). -/
def valveCommand (lc g : Nat) : Nat := if lc = 0 then 0 else min 1000 (g * 1000 / lc)

/-- The heating target (R36). -/
def heatingTarget (smin dh : Nat) : Nat := max smin dh

/-- The cooling recovery target (R37); x is Ho − Hr − Mr. -/
def coolingTarget (smin sr : Nat) (x : Int) : Nat := smin + (1000 - smin) * (clampInt 0 sr x).toNat / sr

/-- The minimum useful share of a relief request (R10). -/
def minUsefulShare (percent request : Nat) : Nat := max 1 (percent * request / 100)

/-- The measured speed of c pulses, p to a turn, in a window of g seconds (R55). -/
def measuredRpm (c p g : Nat) : Nat := c * 60 / (p * g)

/-- The voltage in mV an analogue output stands at for a command: 2 V for 0 and 10 V for 1000 (spec/08, opening). -/
def outputMillivolts (command : Nat) : Nat := 2000 + 8 * command

end Sys2Proof.Machine
end

