-- ==== Sys2Proof/Machine/Blocks.lean ====
section
/-! DEFINITION. The state of each of the twelve blocks (spec/00_scope.md, Organisation of the Station) and its start values. -/

namespace Sys2Proof.Machine

/-! ### Start-up control (spec/10) -/

/-- The lifecycle states, in the order RDST codes them (R188). -/
inductive Lifecycle where
  | config | commission | listen | joining | active | isolated | service
  deriving DecidableEq, Repr

/-- The states in which decisions run, outputs are in service and the station announces: JOINING, ACTIVE, ISOLATED (R2, R133, R160). -/
def Lifecycle.inService : Lifecycle → Bool
  | .joining | .active | .isolated => true
  | .config | .commission | .listen | .service => false

/-- Start-up control's state (spec/10, opening; R174). -/
structure StartUp where
  lifecycle : Lifecycle
  address : Nat
  settings : Settings
  configDefault : Bool
  configTimer : Timer
  listenTimer : Timer
  ownCount : Nat
  restartPending : Bool
  deriving DecidableEq, Repr

/-! ### Measurement scanner and rotation counter (spec/03) -/

/-- The states of a quantity (section 3.4). -/
inductive QuantityState where
  | absent | filling | valid | failed
  deriving DecidableEq, Repr

/-- A quantity's averaging window, samples oldest first (R47). -/
structure Window where
  state : QuantityState
  samples : List Int
  lastAccepted : Option Int
  substituteRun : Nat
  deriving DecidableEq, Repr

/-- A window with no samples in a state. -/
def emptyWindow (q : QuantityState) : Window := { state := q, samples := [], lastAccepted := none, substituteRun := 0 }

/-- The sum of the samples. -/
def sumInt : List Int → Int
  | [] => 0
  | x :: xs => x + sumInt xs

/-- The window average, defined while a sample is held (R47). -/
def Window.average (w : Window) : Option Int :=
  if w.samples.isEmpty then none else some (roundHalfAway (sumInt w.samples) w.samples.length)

/-- The average other blocks read: only while the quantity is VALID (R47, R51). -/
def Window.reading (w : Window) : Option Int := if w.state = .valid then w.average else none

/-- The nine windows. -/
structure Windows where
  outT : Window
  outW : Window
  retT : Window
  retW : Window
  exhT : Window
  heatDem : Window
  coolDem : Window
  bypFb : Window
  oaFb : Window
  deriving DecidableEq, Repr

/-- The window of a quantity. -/
def Windows.get (w : Windows) : Quantity → Window
  | .outT => w.outT
  | .outW => w.outW
  | .retT => w.retT
  | .retW => w.retW
  | .exhT => w.exhT
  | .heatDem => w.heatDem
  | .coolDem => w.coolDem
  | .bypFb => w.bypFb
  | .oaFb => w.oaFb

/-- The windows with one of them replaced. -/
def Windows.set (w : Windows) (q : Quantity) (v : Window) : Windows :=
  match q with
  | .outT => { w with outT := v }
  | .outW => { w with outW := v }
  | .retT => { w with retT := v }
  | .retW => { w with retW := v }
  | .exhT => { w with exhT := v }
  | .heatDem => { w with heatDem := v }
  | .coolDem => { w with coolDem := v }
  | .bypFb => { w with bypFb := v }
  | .oaFb => { w with oaFb := v }

/-- A scan in flight: the conversions delivered and the time left of the present one (R44). -/
structure ScanInFlight where
  delivered : Nat
  left : Nat
  deriving DecidableEq, Repr

/-- The measurement scanner's state. -/
structure Scanner where
  windows : Windows
  scanTimer : Timer
  scan : Option ScanInFlight
  scanOut : Bool
  scanOutTimer : Timer
  deriving DecidableEq, Repr

/-- The start state of a quantity's window: FILLING when it is scanned, else ABSENT (R38, R53). -/
def startWindow (c : Settings) (q : Quantity) : Window := emptyWindow (if c.scanned q then .filling else .absent)

/-- The scanner's start values (R53). -/
def startScanner (c : Settings) : Scanner where
  windows :=
    { outT := startWindow c .outT, outW := startWindow c .outW, retT := startWindow c .retT, retW := startWindow c .retW,
      exhT := startWindow c .exhT, heatDem := startWindow c .heatDem, coolDem := startWindow c .coolDem,
      bypFb := startWindow c .bypFb, oaFb := startWindow c .oaFb }
  scanTimer := none
  scan := none
  scanOut := false
  scanOutTimer := none

/-- The rotation counter's state (R54). -/
structure Rotation where
  gate : Timer
  pulses : Nat
  settling : Bool
  zeroRun : Nat
  rpm : Nat
  deriving DecidableEq, Repr

/-- The rotation counter with no window running (R54, R58). -/
def idleRotation : Rotation := { gate := none, pulses := 0, settling := false, zeroRun := 0, rpm := 0 }

/-! ### Outdoor reconciler (spec/04) -/

/-- A reference temperature, humidity ratio and enthalpy. -/
structure OutdoorPoint where
  t : Int
  w : Int
  h : Int
  deriving DecidableEq, Repr

/-- The reference state; INVALID holds no values (R59, R63 to R65). -/
inductive Reference where
  | fresh (p : OutdoorPoint)
  | held (p : OutdoorPoint)
  | invalid
  deriving DecidableEq, Repr

/-- The reference values in FRESH and HELD (R3). -/
def Reference.point : Reference → Option OutdoorPoint
  | .fresh p => some p
  | .held p => some p
  | .invalid => none

/-- Whether the own sensor may stand as a candidate (R60, R68). -/
inductive OwnSensor where
  | included | excluded
  deriving DecidableEq, Repr

/-- The outdoor reconciler's record (spec/04, opening). -/
structure Reconciler where
  reference : Reference
  count : Nat
  own : OwnSensor
  disagreeRun : Nat
  agreeRun : Nat
  hold : Timer
  deriving DecidableEq, Repr

/-- The reconciler's start values (R59). -/
def startReconciler : Reconciler :=
  { reference := .invalid, count := 0, own := .included, disagreeRun := 0, agreeRun := 0, hold := none }

/-! ### Decision engine (spec/01) -/

/-- The applied modes. -/
inductive Mode where
  | bypass | recover | frost | economize
  deriving DecidableEq, Repr

/-- The modes a candidate or a target may take: never FROST (spec/01, opening). -/
inductive Target where
  | bypass | recover | economize
  deriving DecidableEq, Repr

/-- The applied mode that carries out a target. -/
def Target.mode : Target → Mode
  | .bypass => .bypass
  | .recover => .recover
  | .economize => .economize

/-- RECOVER and FROST, the recovery pair. -/
def Mode.inPair : Mode → Bool
  | .recover | .frost => true
  | .bypass | .economize => false

/-- A target equals an applied mode, RECOVER counting as equal to FROST (R12). -/
def Target.matchesMode (t : Target) (m : Mode) : Bool :=
  match t with
  | .bypass => decide (m = .bypass)
  | .recover => m.inPair
  | .economize => decide (m = .economize)

/-- The regimes (R6). -/
inductive Regime where
  | heating | cooling | neutral
  deriving DecidableEq, Repr

/-- The decision engine's state (R1). -/
structure Engine where
  applied : Mode
  target : Target
  dwell : Nat
  regime : Regime
  candidate : Target
  fallback : Bool
  baseSpeed : Nat
  speedTarget : Nat
  reliefRequest : Nat
  reliefCap : Nat
  wfcRequest : Nat
  wfcCap : Nat
  forceBypass : Timer
  decisionTimer : Timer
  deriving DecidableEq, Repr

/-- The engine's start values (R1). -/
def startEngine (c : Settings) : Engine where
  applied := .bypass
  target := .bypass
  dwell := c.dwell
  regime := .neutral
  candidate := .bypass
  fallback := false
  baseSpeed := c.smin
  speedTarget := c.smin
  reliefRequest := 0
  reliefCap := reliefCapOf c.fmin c.qs
  wfcRequest := 0
  wfcCap := c.lc
  forceBypass := none
  decisionTimer := none

/-! ### Peer table (spec/05) -/

/-- The two shared budgets (spec/06). -/
inductive Budget where
  | relief | wfc
  deriving DecidableEq, Repr

/-- Request, cap and in use of one budget, as announced (R72). -/
structure Claim where
  request : Nat
  cap : Nat
  inUse : Nat
  deriving DecidableEq, Repr

/-- An announced outdoor observation (R72). -/
structure Observation where
  t : Int
  w : Nat
  deriving DecidableEq, Repr

/-- The lifecycle flags of an ANNOUNCE (R156). -/
inductive PeerFlag where
  | joining | active | isolated
  deriving DecidableEq, Repr

/-- What the body of an ANNOUNCE carries (R156, R159). -/
structure Announcement where
  sequence : Nat
  flag : PeerFlag
  mode : Mode
  riserGroup : Nat
  plantGroup : Nat
  height : Nat
  period : Nat
  observation : Option Observation
  relief : Claim
  wfc : Claim
  faults : Byte
  deriving DecidableEq, Repr

/-- The claim an announcement makes on a budget. -/
def Announcement.claim (a : Announcement) : Budget → Claim
  | .relief => a.relief
  | .wfc => a.wfc

/-- The states of a peer record. -/
inductive PeerState where
  | live | coasting | lost
  deriving DecidableEq, Repr

/-- A peer record (R72): `said` is the last accepted ANNOUNCE, its height clamped; `silence` is the time since it, in ms. -/
structure PeerRecord where
  address : Nat
  sameRiser : Bool
  samePlant : Bool
  state : PeerState
  silence : Nat
  gapCount : Nat
  said : Announcement
  deriving DecidableEq, Repr

/-- Membership in the group of a budget (R96). -/
def PeerRecord.memberOf (r : PeerRecord) : Budget → Bool
  | .relief => r.sameRiser
  | .wfc => r.samePlant

/-- A record that is neither is outdoor-only (R73). -/
def PeerRecord.outdoorOnly (r : PeerRecord) : Bool := !r.sameRiser && !r.samePlant

/-- Pp: the announced period clamped to 5 to 60 s (R72). -/
def PeerRecord.pp (r : PeerRecord) : Nat := clampNat 5 60 r.said.period

/-- The peer table, records in ascending order of address (R74), and LONE (R91). -/
structure PeerTable where
  records : List PeerRecord
  lone : Bool
  deriving DecidableEq, Repr

/-- The table's start values (R92). -/
def startTable : PeerTable := { records := [], lone := true }

/-! ### Budget allocator (spec/06) -/

/-- An entry of a participant list: its share is absent until the division gives it one (R94). -/
structure Participant where
  address : Nat
  request : Nat
  share : Option Nat
  deriving DecidableEq, Repr

/-- The allocation record of one budget (R94). -/
structure Allocation where
  value : Nat
  participants : List Participant
  ownShare : Nat
  grant : Nat
  deriving DecidableEq, Repr

/-- The allocator's two records. -/
structure Allocator where
  relief : Allocation
  wfc : Allocation
  deriving DecidableEq, Repr

/-- The record of a budget. -/
def Allocator.get (a : Allocator) : Budget → Allocation
  | .relief => a.relief
  | .wfc => a.wfc

/-- The allocator with the record of one budget replaced. -/
def Allocator.set (a : Allocator) (b : Budget) (v : Allocation) : Allocator :=
  match b with
  | .relief => { a with relief := v }
  | .wfc => { a with wfc := v }

/-- An allocation record at a start, with a budget value (R94). -/
def startAllocation (value : Nat) : Allocation := { value := value, participants := [], ownShare := 0, grant := 0 }

/-- The allocator's start values (R94). -/
def startAllocator (c : Settings) : Allocator := { relief := startAllocation c.brel, wfc := startAllocation 0 }

/-! ### Transition stagger and relief fan (spec/07) -/

/-- The kinds of heavy change (R13). -/
inductive ChangeKind where
  | wheelStart | econOpen
  deriving DecidableEq, Repr

/-- The target mode of a kind (section 7.1). -/
def ChangeKind.target : ChangeKind → Target
  | .wheelStart => .recover
  | .econOpen => .economize

/-- The phases of a pending transition. -/
inductive Phase where
  | queued | window | slotWait
  deriving DecidableEq, Repr

/-- A key: a height and an address (section 7.1). -/
structure Key where
  height : Nat
  address : Nat
  deriving DecidableEq, Repr

/-- One key is lower than another (section 7.1). -/
def Key.lower (a b : Key) : Bool := decide (a.height < b.height ∨ (a.height = b.height ∧ a.address < b.address))

/-- A pending transition (section 7.1). -/
structure Pending where
  kind : ChangeKind
  key : Key
  phase : Phase
  resendUsed : Bool
  deriving DecidableEq, Repr

/-- The stagger's state: the intent list is in ascending order of key (R121). -/
structure Stagger where
  pending : Option Pending
  intents : List Key
  windowTimer : Timer
  slotTimer : Timer
  backoff : Timer
  deriving DecidableEq, Repr

/-- The stagger's start values (R116), and what a cancellation leaves (R125). -/
def idleStagger : Stagger := { pending := none, intents := [], windowTimer := none, slotTimer := none, backoff := none }

/-- The fan states (section 7.5). -/
inductive FanState where
  | off | on | offDelay
  deriving DecidableEq, Repr

/-- Relief fan control's state, with RELIEF_RUN. -/
structure Fan where
  state : FanState
  offDelay : Timer
  suspended : Bool
  reliefRun : Bool
  deriving DecidableEq, Repr

/-- The fan at cold start (R131). -/
def startFan : Fan := { state := .off, offDelay := none, suspended := false, reliefRun := false }

/-! ### Output stage (spec/08) -/

/-- The wheel states (section 8.2). -/
inductive Wheel where
  | stopped | purging | running | stalled
  deriving DecidableEq, Repr

/-- The polarity outcomes (R143). -/
inductive Polarity where
  | normal | reversed | fault | untested
  deriving DecidableEq, Repr

/-- A damper: its command, outcome, mismatch count and settle timer. -/
structure DamperState where
  command : Nat
  outcome : Polarity
  mismatches : Nat
  settle : Timer
  deriving DecidableEq, Repr

/-- The phases of the polarity test (R142). -/
inductive TestPhase where
  | bypassLow | bypassHigh | outdoorLow | outdoorHigh
  deriving DecidableEq, Repr

/-- The polarity test: its phase, the time left of it and the readings A taken so far; `none` is not usable (R143). -/
structure PolarityTest where
  phase : TestPhase
  left : Nat
  bypassA : Option Int
  outdoorA : Option Int
  deriving DecidableEq, Repr

/-- The output stage's state. `idle` is the time elapsed since the wheel entered STOPPED (R137). -/
structure Output where
  wheel : Wheel
  idle : Option Nat
  purge : Timer
  wanted : Nat
  bypass : DamperState
  outdoor : DamperState
  test : Option PolarityTest
  wheelSpd : Nat
  wfcPos : Nat
  wheelRun : Bool
  deriving DecidableEq, Repr

/-- The state of a damper. -/
def Output.damper (o : Output) : Damper → DamperState
  | .bypass => o.bypass
  | .outdoor => o.outdoor

/-- The output stage with the state of one damper replaced. -/
def Output.setDamper (o : Output) (d : Damper) (v : DamperState) : Output :=
  match d with
  | .bypass => { o with bypass := v }
  | .outdoor => { o with outdoor := v }

/-- A damper at cold start (R150). -/
def startDamper (command : Nat) : DamperState := { command := command, outcome := .untested, mismatches := 0, settle := none }

/-- The output stage at cold start, with an Fmin: the default one until the record is loaded (R150). -/
def startOutput (fmin : Nat) : Output where
  wheel := .stopped
  idle := none
  purge := none
  wanted := fmin
  bypass := startDamper 1000
  outdoor := startDamper fmin
  test := none
  wheelSpd := 0
  wfcPos := 0
  wheelRun := false

/-! ### Bus interface (spec/09) -/

/-- The receiver states (R154). -/
inductive Receiver where
  | off | waitIdle | idle | collecting
  deriving DecidableEq, Repr

/-- The transmitter states (R163). -/
inductive Transmitter where
  | quiet | contending | sending
  deriving DecidableEq, Repr

/-- The kinds of slot (R162). -/
inductive Slot where
  | announce | intent | reply
  deriving DecidableEq, Repr

/-- The frame in transmission, and whether its slot still holds it (R162). -/
structure Transmission where
  slot : Slot
  frame : Frame
  inSlot : Bool
  deriving DecidableEq, Repr

/-- The bus interface's state (spec/09, opening). -/
structure Bus where
  receiver : Receiver
  transmitter : Transmitter
  announceSlot : Option Frame
  intentSlot : Option Frame
  replySlots : List Frame
  onAir : Option Transmission
  remnant : Bool
  announceTimer : Timer
  sequence : Nat
  lastHeard : Timer
  heard : Bool
  clashTimer : Timer
  clash : Bool
  stuck : Bool
  deriving DecidableEq, Repr

/-- The bus interface's values with a receiver state: OFF in CONFIG, WAIT_IDLE on leaving it and at warm restart (R153, R173). -/
def startBus (r : Receiver) : Bus where
  receiver := r
  transmitter := .quiet
  announceSlot := none
  intentSlot := none
  replySlots := []
  onAir := none
  remnant := false
  announceTimer := none
  sequence := 0
  lastHeard := none
  heard := false
  clashTimer := none
  clash := false
  stuck := false

/-! ### Service responder and the device counters (spec/11) -/

/-- The eight faults of section 11.3. -/
inductive StationFault where
  | sensor | reference | wheelStall | damper | addressClash | configDefault | busStuck | isolated
  deriving DecidableEq, Repr

/-- One flag for each fault, in the bit order of R156, bit 7 first. -/
structure FaultSet where
  sensor : Bool
  reference : Bool
  wheelStall : Bool
  damper : Bool
  addressClash : Bool
  configDefault : Bool
  busStuck : Bool
  isolated : Bool
  deriving DecidableEq, Repr

/-- No fault. -/
def noFaults : FaultSet :=
  { sensor := false, reference := false, wheelStall := false, damper := false, addressClash := false,
    configDefault := false, busStuck := false, isolated := false }

/-- The service responder's state: the sticky flags and the ALARM output (R189, R190). -/
structure Responder where
  sticky : FaultSet
  alarm : Bool
  deriving DecidableEq, Repr

/-- The responder at cold start (R189, R190). -/
def startResponder : Responder := { sticky := noFaults, alarm := false }

/-- The eight device counters (R187, R188). -/
structure Counters where
  crcErrors : Nat
  framesAbandoned : Nat
  contentionsLost : Nat
  seqGaps : Nat
  tableRefusals : Nat
  queriesDropped : Nat
  sampleRejects : Nat
  scanOverruns : Nat
  deriving DecidableEq, Repr

/-- Every device counter 0 (R174, R187). -/
def zeroCounters : Counters :=
  { crcErrors := 0, framesAbandoned := 0, contentionsLost := 0, seqGaps := 0, tableRefusals := 0, queriesDropped := 0,
    sampleRejects := 0, scanOverruns := 0 }

end Sys2Proof.Machine
end

