-- ==== Sys2Proof/Machine/State.lean ====
section
/-! DEFINITION. The station's whole state, its value at reset, and the reasons a step could stop. -/

namespace Sys2Proof.Machine

/-- The station: the state of its blocks, the count of free values drawn (the model's own), and the commands that wait. -/
structure State where
  startUp : StartUp
  scanner : Scanner
  rotation : Rotation
  reconciler : Reconciler
  engine : Engine
  table : PeerTable
  allocator : Allocator
  stagger : Stagger
  fan : Fan
  output : Output
  bus : Bus
  responder : Responder
  counters : Counters
  freeDraws : Nat
  pending : List Instr
  deriving DecidableEq, Repr

/-- What stops the station: nothing. No event of the spec ends its run, so there is no constructor. -/
inductive Fault where
  deriving DecidableEq, Repr

/-- What the model declines. -/
inductive Refusal where
  /-- A command without a meaning yet. Raised by the arms of `exec` that have none: at present by none of them. Safe. -/
  | notModelled (mnemonic : String)
  deriving DecidableEq, Repr

/-- The station while RESET is low, or as the supply comes up: lifecycle CONFIG, every block at its start values, straps and record
not read, no event taken until COLD_START releases it (R150, R174). Strap address 0 and the default settings stand until the straps and
the record are read. DESIGN CHOICE, log 1. -/
def State.reset : State where
  startUp :=
    { lifecycle := .config, address := 0, settings := defaultSettings, configDefault := false, configTimer := none,
      listenTimer := none, ownCount := 0, restartPending := false }
  scanner := startScanner defaultSettings
  rotation := idleRotation
  reconciler := startReconciler
  engine := startEngine defaultSettings
  table := startTable
  allocator := startAllocator defaultSettings
  stagger := idleStagger
  fan := startFan
  output := startOutput defaultSettings.fmin
  bus := startBus .off
  responder := startResponder
  counters := zeroCounters
  freeDraws := 0
  pending := []

end Sys2Proof.Machine
end

