-- ==== Sys2Proof/Machine/Operands.lean ====
section
/-! DEFINITION. Reading and writing what comes from and goes to the outside as bytes: fields, the CRC, the frames of R156, the checks of
R158, the strap bands of R175 and the configuration record of R176 to R178. -/

namespace Sys2Proof.Machine

/-! ### Fields -/

/-- A one-byte field. -/
def byteAt (f : List Byte) (i : Nat) : Nat := ((f[i]?).getD 0).toNat

/-- A two-byte field, high byte first (R156, R176). -/
def halfAt (f : List Byte) (i : Nat) : Nat := byteAt f i * 256 + byteAt f (i + 1)

/-- A 16-bit number in two's complement (R156, R176). -/
def signed16 (n : Nat) : Int := if n < 32768 then n else (n : Int) - 65536

/-- A signed one-byte field in two's complement (R176). -/
def signed8 (n : Nat) : Int := if n < 128 then n else (n : Int) - 256

/-- One byte sent. -/
def byteOf (n : Nat) : Byte := BitVec.ofNat 8 n

/-- A two-byte field sent, high byte first (R156). -/
def halfOf (n : Nat) : List Byte := [byteOf (n / 256), byteOf n]

/-- A signed two-byte field sent, in two's complement (R156). -/
def signedHalfOf (i : Int) : List Byte := halfOf (BitVec.ofInt 16 i).toNat

/-! ### The CRC (R157) -/

/-- One of the eight steps of a byte. -/
def crcStep (r : Half) : Half := if r.msb then (r <<< 1) ^^^ 0x1021#16 else r <<< 1

/-- The register after one byte. -/
def crcByte (r : Half) (b : Byte) : Half :=
  crcStep (crcStep (crcStep (crcStep (crcStep (crcStep (crcStep (crcStep (r ^^^ (b.setWidth 16 <<< 8)))))))))

/-- The register after a list of bytes. -/
def crcFrom (r : Half) : List Byte → Half
  | [] => r
  | b :: bs => crcFrom (crcByte r b) bs

/-- The CRC of a list of bytes, from 0xFFFF, with no final inversion (R157). -/
def crc16 (bytes : List Byte) : Half := crcFrom 0xFFFF#16 bytes

/-- The CRC of a frame: bytes 3 and 4 taken as 0 (R157). -/
def frameCrc (f : Frame) : Half := crc16 (f.take 3 ++ [0, 0] ++ f.drop 5)

/-! ### Frames (R156) -/

/-- The frame kinds. -/
inductive FrameKind where
  | intent | announce | query | reply
  deriving DecidableEq, Repr

/-- The kind codes: bits 7 to 4 of byte 1 (R156). -/
def FrameKind.code : FrameKind → Nat
  | .intent => 1
  | .announce => 2
  | .query => 3
  | .reply => 4

/-- The classes: bits 7 and 6 of byte 0 (R156). -/
def FrameKind.frameClass : FrameKind → Nat
  | .intent => 0
  | .announce => 1
  | .reply => 2
  | .query => 3

/-- The kind of a code, none for a reserved one. -/
def frameKindOf (code : Nat) : Option FrameKind :=
  if code = 1 then some .intent
  else if code = 2 then some .announce
  else if code = 3 then some .query
  else if code = 4 then some .reply
  else none

/-- Whether a body length is one of a kind (R156, R158). -/
def lengthFits (k : FrameKind) (n : Nat) : Bool :=
  match k with
  | .announce => decide (n = 24)
  | .intent | .query => decide (n = 4)
  | .reply => decide (3 ≤ n ∧ n ≤ 48)

/-- The contention byte: class and source address (R156). -/
def contentionByte (k : FrameKind) (source : Nat) : Byte := byteOf (k.frameClass * 64 + source % 64)

/-- A frame of a kind from a source with a body: header, CRC by R157, body. -/
def buildFrame (k : FrameKind) (source : Nat) (body : List Byte) : Frame :=
  let h := [contentionByte k source, byteOf (k.code * 16), byteOf body.length]
  h ++ halfOf (crc16 (h ++ [0, 0] ++ body)).toNat ++ body

/-- The source address of a frame. -/
def frameSource (f : Frame) : Nat := byteAt f 0 % 64

/-- The kind of a frame, by its kind code. -/
def frameKind (f : Frame) : Option FrameKind := frameKindOf (frameKindCode f)

/-- The last test of R158: the lifecycle flag of an ANNOUNCE, the kind of an INTENT. -/
def bodyFits (k : FrameKind) (f : Frame) : Bool :=
  match k with
  | .announce => decide (byteAt f 6 / 64 ≠ 3)
  | .intent => decide (byteAt f 5 = 1 ∨ byteAt f 5 = 2)
  | .query | .reply => true

/-- A complete frame is valid when it passes every test of R158. -/
def frameValid (f : Frame) : Bool :=
  match frameKind f with
  | none => false
  | some k =>
    decide ((frameCrc f).toNat = halfAt f 3) && decide (byteAt f 0 / 64 = k.frameClass) && lengthFits k (byteAt f 2) &&
      bodyFits k f

/-! ### Bodies (R156) -/

/-- The mode of its two-bit code. -/
def modeOf (n : Nat) : Mode :=
  if n = 0 then .bypass else if n = 1 then .recover else if n = 2 then .frost else .economize

/-- The two-bit code of a mode. -/
def Mode.code : Mode → Nat
  | .bypass => 0
  | .recover => 1
  | .frost => 2
  | .economize => 3

/-- The flag of its two-bit code; code 3 does not pass R158. -/
def flagOf (n : Nat) : PeerFlag := if n = 0 then .joining else if n = 1 then .active else .isolated

/-- The two-bit code of a flag. -/
def PeerFlag.code : PeerFlag → Nat
  | .joining => 0
  | .active => 1
  | .isolated => 2

/-- Byte 6 of an ANNOUNCE body: flag, observation present, applied mode (R156). -/
def stateByte (a : Announcement) : Nat :=
  a.flag.code * 64 + (if a.observation.isSome then 32 else 0) + a.mode.code * 8

/-- The six claim fields, high bytes first. -/
def claimBytes (c : Claim) : List Byte := halfOf c.request ++ halfOf c.cap ++ halfOf c.inUse

/-- The four bytes of an observation, 0 when absent (R160, R188). -/
def observationBytes : Option Observation → List Byte
  | some o => signedHalfOf o.t ++ halfOf o.w
  | none => [0, 0, 0, 0]

/-- The body of an ANNOUNCE (R156). -/
def announceBody (a : Announcement) : List Byte :=
  [byteOf a.sequence, byteOf (stateByte a), byteOf a.riserGroup, byteOf a.plantGroup] ++ halfOf a.height ++ [byteOf a.period] ++
    observationBytes a.observation ++ claimBytes a.relief ++ claimBytes a.wfc ++ [a.faults]

/-- What the body of an ANNOUNCE says; with observation present clear its two fields are disregarded (R159). -/
def announcementOf (f : Frame) : Announcement where
  sequence := byteAt f 5
  flag := flagOf (byteAt f 6 / 64)
  mode := modeOf (byteAt f 6 / 8 % 4)
  riserGroup := byteAt f 7
  plantGroup := byteAt f 8
  height := halfAt f 9
  period := byteAt f 11
  observation :=
    if byteAt f 6 / 32 % 2 = 1 then some { t := signed16 (halfAt f 12), w := halfAt f 14 } else none
  relief := { request := halfAt f 16, cap := halfAt f 18, inUse := halfAt f 20 }
  wfc := { request := halfAt f 22, cap := halfAt f 24, inUse := halfAt f 26 }
  faults := (f[28]?).getD 0

/-- The code of a kind of change in an INTENT body. -/
def ChangeKind.code : ChangeKind → Nat
  | .wheelStart => 1
  | .econOpen => 2

/-- The body of an INTENT (R117, R156). -/
def intentBody (k : ChangeKind) (riser height : Nat) : List Byte := [byteOf k.code, byteOf riser] ++ halfOf height

/-- The body of a REPLY (R156, R161). -/
def replyBody (querier kind result : Nat) (data : List Byte) : List Byte :=
  [byteOf querier, byteOf kind, byteOf result] ++ data

/-! ### Straps (R175) -/

/-- The band of a divider ratio, a ratio of 1 in band 7 (R175). -/
def strapBand (r : Ratio) : Nat := min 7 (8 * r.num / r.den)

/-- The strap address (R175). -/
def strapAddress (hi lo : Ratio) : Nat := 8 * strapBand hi + strapBand lo

/-! ### The configuration record (R176 to R178) -/

/-- The CRC of bytes 0 to 81 is in bytes 82 and 83, and byte 0 is 0xA1 (R176). A memory that does not return 84 bytes fails. -/
def recordIntact (r : List Byte) : Bool :=
  decide (r.length = 84) && decide ((crc16 (r.take 82)).toNat = halfAt r 82) && decide (byteAt r 0 = 0xA1)

/-- The scan source of its code; a code above 3 is taken as ECHO (R177). -/
def scanSourceOf (n : Nat) : ScanSource :=
  if n = 0 then .internal else if n = 1 then .external else if n = 2 then .gated else .echo

/-- A purge interval as clamped (R177): 0 stays 0. -/
def clampPurge (n : Nat) : Nat := if n = 0 then 0 else clampNat 10 240 n

/-- A bit of a byte. -/
def bitAt (n i : Nat) : Bool := decide (n / 2 ^ i % 2 = 1)

/-- The parameters of a record, each clamped (R176, R177). -/
def settingsOf (r : List Byte) : Settings :=
  let hOn := clampInt (-4024) 13774 (signed16 (halfAt r 43))
  { riserGroup := clampNat 0 31 (byteAt r 1)
    plantGroup := clampNat 0 15 (byteAt r 2)
    height := clampNat 0 600 (halfAt r 3)
    announcePeriod := clampNat 5 60 (byteAt r 5)
    decisionPeriod := clampNat 10 300 (halfAt r 6)
    dwell := clampNat 1 60 (byteAt r 8)
    scanSource := scanSourceOf (byteAt r 9)
    scanPeriod := clampNat 500 10000 (halfAt r 10)
    scanList := ((r.drop 13).take (clampNat 1 10 (byteAt r 12))).map fun b => clampNat 0 9 b.toNat
    channelMap := ((r.drop 23).take 10).map fun b => Quantity.ofIndex b.toNat
    fmin := clampNat 50 500 (halfAt r 33)
    qs := clampNat 500 60000 (halfAt r 35)
    lc := halfAt r 37
    brel := halfAt r 39
    cnom := halfAt r 41
    hOn := hOn
    hOff := max (hOn + 100) (clampInt (-4024) 13874 (signed16 (halfAt r 45)))
    dTrec := clampNat 10 100 (byteAt r 47)
    recBand := clampNat 0 50 (byteAt r 48)
    me := clampNat 0 1000 (halfAt r 49)
    mr := clampNat 0 1000 (halfAt r 51)
    hb := clampNat 0 500 (halfAt r 53)
    sr := clampNat 100 2000 (halfAt r 55)
    tlow := clampInt (-200) 200 (signed16 (halfAt r 57))
    minUseful := clampNat 10 100 (byteAt r 59)
    smin := clampNat 50 500 (halfAt r 60)
    purgeInterval := clampPurge (byteAt r 62)
    purgeDuration := clampNat 5 120 (byteAt r 63)
    purgeSpeed := clampNat 50 500 (halfAt r 64)
    tf := clampInt (-100) 50 (signed16 (halfAt r 66))
    frostBand := clampNat 5 50 (byteAt r 68)
    lostPolicy := if bitAt (byteAt r 69) 7 then .reserve else .release
    fanOwner := bitAt (byteAt r 69) 6
    isolationPolicy := if bitAt (byteAt r 69) 5 then .default else .hold
    fanDefaultOn := bitAt (byteAt r 69) 4
    fallbackMode := if bitAt (byteAt r 69) 3 then .recover else .bypass
    offDelay := clampNat 0 600 (halfAt r 70)
    staggerInterval := clampNat 1 30 (byteAt r 72)
    intentWindow := clampNat 1 10 (byteAt r 73)
    lapse := clampInt (-100) 0 (signed8 (byteAt r 74))
    reach := clampNat 0 600 (halfAt r 75)
    outlier := clampNat 10 200 (byteAt r 77)
    holdLimit := clampNat 1 60 (byteAt r 78)
    gateWindow := clampNat 5 60 (byteAt r 79)
    pulsesPerRev := clampNat 0 8 (byteAt r 80)
    strokeTime := clampNat 30 240 (byteAt r 81) }

/-- No entry of a list repeats. -/
def noRepeats : List Nat → Bool
  | [] => true
  | x :: xs => !xs.contains x && noRepeats xs

/-- No quantity is mapped to two channels (R178). -/
def mapSound (m : List (Option Quantity)) : Bool :=
  Quantity.all.all fun q => decide (m.count (some q) ≤ 1)

/-- A record is accepted when it is intact and passes the structural checks after the clamps (R176, R178). -/
def recordAccepted (r : List Byte) : Bool :=
  recordIntact r && mapSound (settingsOf r).channelMap && noRepeats (settingsOf r).scanList

/-- The configuration a record gives: its own parameters, or every default (R178). -/
def loadSettings (r : List Byte) : Settings := if recordAccepted r then settingsOf r else defaultSettings

end Sys2Proof.Machine
end

