-- ==== Sys2Proof/Machine/Flags.lean ====
section
/-! DEFINITION. The faults present, the sticky flags, the ALARM output and the device counters' setters (spec/11, section 11.3). -/

namespace Sys2Proof.Machine

/-- The byte of a fault set, in the bit order of R156. -/
def FaultSet.toByte (f : FaultSet) : Byte :=
  byteOf ((if f.sensor then 128 else 0) + (if f.reference then 64 else 0) + (if f.wheelStall then 32 else 0) +
    (if f.damper then 16 else 0) + (if f.addressClash then 8 else 0) + (if f.configDefault then 4 else 0) +
    (if f.busStuck then 2 else 0) + (if f.isolated then 1 else 0))

/-- A fault set with one flag set. -/
def FaultSet.insert (f : FaultSet) : StationFault → FaultSet
  | .sensor => { f with sensor := true }
  | .reference => { f with reference := true }
  | .wheelStall => { f with wheelStall := true }
  | .damper => { f with damper := true }
  | .addressClash => { f with addressClash := true }
  | .configDefault => { f with configDefault := true }
  | .busStuck => { f with busStuck := true }
  | .isolated => { f with isolated := true }

/-- A scanned quantity is FAILED (R50). -/
def Windows.anyFailed (w : Windows) : Bool := Quantity.all.any fun q => decide ((w.get q).state = .failed)

/-- A damper's outcome is FAULT (R144). -/
def Output.anyDamperFault (o : Output) : Bool :=
  decide (o.bypass.outcome = .fault) || decide (o.outdoor.outcome = .fault)

/-- The reference is INVALID; the fault is present from the moment the record is loaded (R59, R190). -/
def referenceFault (s : State) : Bool :=
  decide (s.reconciler.reference = .invalid) && decide (s.startUp.lifecycle ≠ .config)

/-- The faults present, each as its owner's state gives it (section 11.3). -/
def faultsPresent (s : State) : FaultSet where
  sensor := s.scanner.windows.anyFailed
  reference := referenceFault s
  wheelStall := decide (s.output.wheel = .stalled)
  damper := s.output.anyDamperFault
  addressClash := s.bus.clash
  configDefault := s.startUp.configDefault
  busStuck := s.bus.stuck
  isolated := decide (s.startUp.lifecycle = .isolated)

/-- ALARM as R190 gives it: on in SERVICE and while a fault is present; off until the record is loaded at the end of CONFIG. -/
def alarmDue (s : State) : Bool :=
  decide (s.startUp.lifecycle = .service) ||
    (decide (s.startUp.lifecycle ≠ .config) && decide (faultsPresent s ≠ noFaults))

/-- ALARM follows the faults (R190): every operation that can make a fault present or absent ends with this. -/
def refreshAlarm (s : State) : State := { s with responder := { s.responder with alarm := alarmDue s } }

/-- A fault that has become present sets its sticky flag (R189). -/
def setSticky (f : StationFault) (s : State) : State :=
  { s with responder := { s.responder with sticky := s.responder.sticky.insert f } }

/-! ### Device counters (R173, R186, spec/03 and spec/05) -/

/-- crc_errors + 1. -/
def countCrcError (s : State) : State := { s with counters := { s.counters with crcErrors := bump s.counters.crcErrors } }

/-- frames_abandoned + 1. -/
def countAbandoned (s : State) : State :=
  { s with counters := { s.counters with framesAbandoned := bump s.counters.framesAbandoned } }

/-- contentions_lost + 1. -/
def countContentionLost (s : State) : State :=
  { s with counters := { s.counters with contentionsLost := bump s.counters.contentionsLost } }

/-- seq_gaps + 1. -/
def countSeqGap (s : State) : State := { s with counters := { s.counters with seqGaps := bump s.counters.seqGaps } }

/-- table_refusals + 1. -/
def countRefusal (s : State) : State :=
  { s with counters := { s.counters with tableRefusals := bump s.counters.tableRefusals } }

/-- queries_dropped + 1. -/
def countDropped (s : State) : State :=
  { s with counters := { s.counters with queriesDropped := bump s.counters.queriesDropped } }

/-- sample_rejects + 1. -/
def countReject (s : State) : State :=
  { s with counters := { s.counters with sampleRejects := bump s.counters.sampleRejects } }

/-- scan_overruns + 1. -/
def countOverrun (s : State) : State :=
  { s with counters := { s.counters with scanOverruns := bump s.counters.scanOverruns } }

end Sys2Proof.Machine
end

