-- ==== Sys2Proof/Machine/Division.lean ====
section
/-! DEFINITION. The max-min fair division of a budget over a participant list (spec/06, section 6.4). -/

namespace Sys2Proof.Machine

/-- The sum of the effective requests. -/
def sumRequests : List Participant → Nat
  | [] => 0
  | p :: ps => p.request + sumRequests ps

/-- The number of unsatisfied members: those without a share yet. -/
def unsatisfied : List Participant → Nat
  | [] => 0
  | p :: ps => (if p.share.isNone then 1 else 0) + unsatisfied ps

/-- A member satisfied by a pass: unsatisfied, and its request times n is at most R (R104). -/
def passSatisfies (n r : Nat) (p : Participant) : Bool := p.share.isNone && decide (p.request * n ≤ r)

/-- The sum of the requests a pass satisfies. -/
def passSpends (n r : Nat) : List Participant → Nat
  | [] => 0
  | p :: ps => (if passSatisfies n r p then p.request else 0) + passSpends n r ps

/-- A pass: every satisfied member is given its request (R104). -/
def passGives (n r : Nat) (ps : List Participant) : List Participant :=
  ps.map fun p => if passSatisfies n r p then { p with share := some p.request } else p

/-- Each unsatisfied member is given q, and the first k of them, in list order, one unit more (R105). -/
def splitEqually (q : Nat) : Nat → List Participant → List Participant
  | _, [] => []
  | k, p :: ps =>
    if p.share.isNone then { p with share := some (q + min k 1) } :: splitEqually q (k - 1) ps
    else p :: splitEqually q k ps

/-- The passes of R104, then the equal division of R105. A pass that satisfies none ends them; `fuel` bounds their number, and a
list as long as it needs no more, since each pass but the last satisfies a member. -/
def passes : Nat → Nat → List Participant → List Participant
  | 0, r, ps => splitEqually (r / unsatisfied ps) (r % unsatisfied ps) ps
  | fuel + 1, r, ps =>
    if ps.any (passSatisfies (unsatisfied ps) r) then
      passes fuel (r - passSpends (unsatisfied ps) r ps) (passGives (unsatisfied ps) r ps)
    else splitEqually (r / unsatisfied ps) (r % unsatisfied ps) ps

/-- The shares of a participant list (R103 to R105): in full when the budget suffices, else by passes. -/
def divide (budget : Nat) (ps : List Participant) : List Participant :=
  if sumRequests ps ≤ budget then ps.map fun p => { p with share := some p.request }
  else passes ps.length budget ps

/-- The share a list gives an address: 0 without an entry (R99). -/
def shareOf (address : Nat) : List Participant → Nat
  | [] => 0
  | p :: ps => if p.address = address then p.share.getD 0 else shareOf address ps

/-- An entry inserted at the place its address gives it (R96, R99). -/
def insertParticipant (p : Participant) : List Participant → List Participant
  | [] => [p]
  | x :: xs => if p.address < x.address then p :: x :: xs else x :: insertParticipant p xs

end Sys2Proof.Machine
end

