-- ==== Sys2Proof/Machine/Ops.lean ====
section
/-! DEFINITION. The operations the blocks share: transmit slots, the pending transition, outputs and wheel, relief fan, forced changes,
allocation and grants, the outdoor reference, and the moves of the lifecycle state. Each is a function from state to state. -/

namespace Sys2Proof.Machine

/-- The loaded configuration. -/
abbrev State.cfg (s : State) : Settings := s.startUp.settings

/-- The reading of a quantity: its average while VALID (R3, R51). -/
def State.reading (s : State) (q : Quantity) : Option Int := (s.scanner.windows.get q).reading

/-- The grant in use of a budget. -/
def State.grant (s : State) (b : Budget) : Nat := (s.allocator.get b).grant

/-- The own request for a budget (R1). -/
def Engine.request (e : Engine) : Budget → Nat
  | .relief => e.reliefRequest
  | .wfc => e.wfcRequest

/-- The own cap of a budget (R1). -/
def Engine.cap (e : Engine) : Budget → Nat
  | .relief => e.reliefCap
  | .wfc => e.wfcCap

/-! ### Transmit slots (R162, R163, R172) -/

/-- The frame the station would offer at an idle: the lowest class present that the lifecycle state allows (R163, R172). -/
def offered (s : State) : Option (Slot × Frame) :=
  match s.startUp.lifecycle.inService, s.bus.intentSlot, s.bus.announceSlot, s.bus.replySlots with
  | true, some f, _, _ => some (.intent, f)
  | true, none, some f, _ => some (.announce, f)
  | true, none, none, f :: _ => some (.reply, f)
  | false, _, _, f :: _ => if s.startUp.lifecycle = .listen then some (.reply, f) else none
  | _, _, _, _ => none

/-- A station with a frame to offer begins it at once while its receiver is IDLE, its transmitter QUIET and the line not stuck
(R163). Its own start bit moves its receiver on (R154; DEDUCED, log 8). -/
def beginFrame (s : State) : State :=
  if s.bus.receiver = .idle ∧ s.bus.transmitter = .quiet ∧ s.bus.stuck = false then
    match offered s with
    | some (slot, f) =>
      { s with
        bus :=
          { s.bus with
            transmitter := .contending, receiver := .collecting, onAir := some { slot := slot, frame := f, inSlot := true } } }
    | none => s
  else s

/-- The transmission of a slot's frame goes on although the slot no longer holds it (R162). A frame counts as in transmission from its start
bit, CONTENDING included (DESIGN CHOICE, log 27). -/
def displaced (slot : Slot) (t : Option Transmission) : Option Transmission :=
  t.map fun x => if x.slot = slot then { x with inSlot := false } else x

/-- A new ANNOUNCE takes its slot (R162), and is offered at once on an idle line (R163). -/
def placeAnnounce (f : Frame) (s : State) : State :=
  beginFrame { s with bus := { s.bus with announceSlot := some f, onAir := displaced .announce s.bus.onAir } }

/-- A new INTENT takes its slot (R162), and is offered at once on an idle line (R163). -/
def placeIntent (f : Frame) (s : State) : State :=
  beginFrame { s with bus := { s.bus with intentSlot := some f, onAir := displaced .intent s.bus.onAir } }

/-- The INTENT is withdrawn from its slot (R125, R162). -/
def withdrawIntent (s : State) : State :=
  { s with bus := { s.bus with intentSlot := none, onAir := displaced .intent s.bus.onAir } }

/-- A REPLY takes the free slot behind an older one (R162). -/
def placeReply (f : Frame) (s : State) : State :=
  beginFrame { s with bus := { s.bus with replySlots := s.bus.replySlots ++ [f] } }

/-! ### The pending transition (R117, R124, R125) -/

/-- The INTENT of a kind of change (R117, R161). -/
def intentFrame (s : State) (k : ChangeKind) : Frame :=
  buildFrame .intent s.startUp.address (intentBody k s.cfg.riserGroup s.cfg.height)

/-- The own key: installation height and strap address (R116). -/
def ownKey (s : State) : Key := { height := s.cfg.height, address := s.startUp.address }

/-- A pending transition of a kind in QUEUED, its INTENT in the slot: a new one (R117), or one that replaces another, the key kept
and every timer stopped (R124). -/
def startPending (k : ChangeKind) (s : State) : State :=
  let key := match s.stagger.pending with
    | some p => p.key
    | none => ownKey s
  placeIntent (intentFrame s k)
    { s with stagger := { idleStagger with pending := some { kind := k, key := key, phase := .queued, resendUsed := false } } }

/-- The pending transition is cancelled, its timers stopped and an unsent INTENT withdrawn; without one nothing happens (R125). -/
def cancelPending (s : State) : State :=
  match s.stagger.pending with
  | some _ => withdrawIntent { s with stagger := idleStagger }
  | none => s

/-! ### Outputs (R133 to R136, R145) -/

/-- A damper is driven: a change of its command starts its settle timer (R145). -/
def setCommand (d : Damper) (v : Nat) (s : State) : State :=
  if (s.output.damper d).command = v then s
  else
    { s with
      output :=
        s.output.setDamper d { s.output.damper d with command := v, settle := some (secs s.cfg.strokeTime) } }

/-- BYP_POS of an applied mode (R133). -/
def bypassCommand (s : State) : Nat := if s.engine.applied.inPair then 0 else 1000

/-- OA_POS: the granted fraction in ECONOMIZE, Fmin in every other mode (R133, R134). -/
def outdoorCommand (s : State) : Nat :=
  if s.engine.applied = .economize then grantedFraction s.output.wanted s.cfg.fmin s.cfg.qs (s.grant .relief) else s.cfg.fmin

/-- Both dampers take the commands of R133 and R134 while the station is in service; elsewhere they stand as R142 and R148 give. -/
def driveDampers (s : State) : State :=
  if s.startUp.lifecycle.inService then setCommand .outdoor (outdoorCommand s) (setCommand .bypass (bypassCommand s) s) else s

/-- The valve takes the command of R35 while the station is in service (R112, R135); in the safe state it stands at 0 (R148). -/
def driveValve (s : State) : State :=
  if s.startUp.lifecycle.inService then
    { s with output := { s.output with wfcPos := valveCommand s.cfg.lc (s.grant .wfc) } }
  else s

/-- The idle timer on entry to STOPPED: not run with a purge interval of 0 or in the safe state (R137). -/
def idleStart (s : State) : Option Nat := if s.cfg.purgeInterval = 0 ∨ s.startUp.lifecycle.inService = false then none else some 0

/-- The rotation counter on entry to RUNNING: a settling window, or off with pulses per revolution 0 (R54, R57). -/
def rotationStart (s : State) : Rotation :=
  if s.cfg.pulsesPerRev = 0 then idleRotation
  else { idleRotation with gate := some (secs s.cfg.gateWindow), settling := true }

/-- WHEEL_SPD of a wheel state (R136). -/
def wheelSpeed (s : State) : Wheel → Nat
  | .running => s.engine.speedTarget
  | .purging => s.cfg.purgeSpeed
  | .stopped | .stalled => 0

/-- The wheel enters a state: the table of section 8.2, and the rotation counter by R54. -/
def moveWheel (w : Wheel) (s : State) : State :=
  refreshAlarm
    { s with
      output :=
        { s.output with
          wheel := w
          idle := if w = .stopped then idleStart s else none
          purge := if w = .purging then some (secs s.cfg.purgeDuration) else none
          wheelRun := decide (w = .running ∨ w = .purging)
          wheelSpd := wheelSpeed s w }
      rotation := if w = .running then rotationStart s else idleRotation }

/-- A RUNNING wheel follows the speed target (R136). -/
def followSpeed (s : State) : State :=
  if s.output.wheel = .running then { s with output := { s.output with wheelSpd := s.engine.speedTarget } } else s

/-- What a change of the applied mode does to the wheel (R138 to R140; wheel events at a glance). -/
def wheelFollows (m : Mode) (s : State) : State :=
  match m, s.output.wheel with
  | .bypass, .running | .bypass, .purging | .economize, .running | .economize, .purging => moveWheel .stopped s
  | .recover, .stopped | .recover, .purging => moveWheel .running s
  | _, _ => s

/-- A mode is applied: nothing when it is the applied mode already, else wheel and dampers follow (R133, R138, R139). -/
def applyMode (m : Mode) (s : State) : State :=
  if s.engine.applied = m then s
  else driveDampers (wheelFollows m { s with engine := { s.engine with applied := m } })

/-! ### Relief fan control (R127 to R131) -/

/-- The fan condition (R127). -/
def fanCondition (s : State) : Bool :=
  decide (0 < s.grant .relief) ||
    s.table.records.any fun r => r.sameRiser && decide (r.state ≠ .lost) && decide (0 < r.said.relief.inUse)

/-- An owner's fan control is active in JOINING, ACTIVE and ISOLATED (R127, R131). -/
def fanActive (s : State) : Bool := s.cfg.fanOwner && s.startUp.lifecycle.inService

/-- The fan state after an evaluation of the condition (R128). -/
def fanNext (offDelay : Nat) (cond : Bool) (f : Fan) : Fan :=
  match f.state, cond with
  | .off, true => { f with state := .on, reliefRun := true }
  | .offDelay, true => { f with state := .on, offDelay := none, reliefRun := true }
  | .on, false =>
    if offDelay = 0 then { f with state := .off, offDelay := none, reliefRun := false }
    else { f with state := .offDelay, offDelay := some (secs offDelay), reliefRun := true }
  | .on, true | .off, false | .offDelay, false => f

/-- The fan control evaluates its condition, when active and not suspended (R127, R128, R130). -/
def evaluateFan (s : State) : State :=
  if fanActive s && !s.fan.suspended then { s with fan := fanNext s.cfg.offDelay (fanCondition s) s.fan } else s

/-- The suspension begins: the isolation policy sets RELIEF_RUN (R130). -/
def suspendFan (s : State) : State :=
  { s with
    fan :=
      { s.fan with
        suspended := true
        reliefRun :=
          match s.cfg.isolationPolicy with
          | .hold => s.fan.reliefRun
          | .default => s.cfg.fanDefaultOn } }

/-- The suspension or the dormancy ends: RELIEF_RUN takes the value the fan state gives it, and the condition is evaluated (R130,
R131). -/
def resumeFan (s : State) : State :=
  evaluateFan { s with fan := { s.fan with suspended := false, reliefRun := decide (s.fan.state ≠ .off) } }

/-- An owner in service is suspended while ISOLATED or while BUS_STUCK is present (R130). -/
def suspensionDue (s : State) : Bool := decide (s.startUp.lifecycle = .isolated) || s.bus.stuck

/-- The suspension follows the lifecycle state and BUS_STUCK (R130). -/
def fanFollows (s : State) : State :=
  if fanActive s then
    if suspensionDue s && !s.fan.suspended then suspendFan s
    else if !suspensionDue s && s.fan.suspended then resumeFan s
    else s
  else s

/-- An owner's fan control becomes active on entry to JOINING from LISTEN (R131). -/
def activateFan (s : State) : State :=
  if fanActive s then if suspensionDue s then suspendFan s else resumeFan s else s

/-! ### Forced changes (R10, R19, R23) -/

/-- A forced change (R23). -/
def forcedChange (s : State) : State :=
  applyMode .bypass
    (let s := cancelPending s
     { s with engine := { s.engine with target := .bypass, dwell := 0 } })

/-- The minimum useful share of the present relief request (R10). -/
def minShare (s : State) : Nat := minUsefulShare s.cfg.minUseful s.engine.reliefRequest

/-- The economizer hold condition (R19). -/
def holdCondition (s : State) : Bool := decide (s.startUp.lifecycle = .active) && decide (minShare s ≤ s.grant .relief)

/-- The test of the economizer hold condition: a failure in ECONOMIZE forces BYPASS (R19). -/
def holdTest (s : State) : State :=
  if s.engine.applied = .economize && !holdCondition s then forcedChange s else s

/-! ### Allocation (R95 to R101, R107 to R110) -/

/-- The station may hold shares: ACTIVE, ADDRESS_CLASH absent (R5, R97). -/
def eligible (s : State) : Bool := decide (s.startUp.lifecycle = .active) && !s.bus.clash

/-- The effective request of the own entry: the request in force of an eligible station, within its cap (R97). -/
def ownEffective (b : Budget) (s : State) : Nat :=
  if eligible s then min (s.engine.request b) (s.engine.cap b) else 0

/-- The effective request of a peer's entry (R98). -/
def peerEffective (policy : LostPolicy) (b : Budget) (r : PeerRecord) : Nat :=
  let c := r.said.claim b
  match r.said.flag, r.state, policy with
  | .joining, _, _ | .isolated, _, _ => 0
  | .active, .live, _ | .active, .coasting, _ => min c.request c.cap
  | .active, .lost, .release => 0
  | .active, .lost, .reserve => c.cap

/-- The participants of an allocation: the station and the members of the group that request anything, in address order (R96, R99). -/
def participantsOf (b : Budget) (s : State) : List Participant :=
  (insertParticipant { address := s.startUp.address, request := ownEffective b s, share := none }
    ((s.table.records.filter fun r => r.memberOf b).map fun r =>
      { address := r.address, request := peerEffective s.cfg.lostPolicy b r, share := none })).filter
    fun p => decide (p.request ≠ 0)

/-- A new grant in use is handed to the blocks that act on it (R108). -/
def handOnGrant (b : Budget) (s : State) : State :=
  match b with
  | .wfc => driveValve s
  | .relief => evaluateFan (holdTest (driveDampers s))

/-- A grant in use above the own share is reduced to it at once (R108). -/
def reduceGrant (b : Budget) (s : State) : State :=
  let a := s.allocator.get b
  if a.ownShare < a.grant then
    handOnGrant b { s with allocator := s.allocator.set b { a with grant := a.ownShare } }
  else s

/-- The shares of an allocation of a budget made now. -/
def sharesOf (b : Budget) (s : State) : List Participant := divide (s.allocator.get b).value (participantsOf b s)

/-- An allocation of a budget: participants, own share, and the reduction of the grant in use (R100, R106, R108). -/
def allocate (b : Budget) (s : State) : State :=
  let ps := sharesOf b s
  reduceGrant b
    { s with
      allocator :=
        s.allocator.set b { s.allocator.get b with participants := ps, ownShare := shareOf s.startUp.address ps } }

/-- Allocations of both budgets (R100). -/
def allocateBoth (s : State) : State := allocate .wfc (allocate .relief s)

/-- Share and grant in use of a budget go to 0; a grant that was above 0 is handed on (R109). -/
def zeroGrant (b : Budget) (s : State) : State :=
  reduceGrant b { s with allocator := s.allocator.set b { s.allocator.get b with ownShare := 0 } }

/-- The zeroing of R109, with the allocations that follow it. -/
def zeroGrants (s : State) : State := allocateBoth (zeroGrant .wfc (zeroGrant .relief s))

/-- The allocator derates the WFC budget from the reference, and allocates WFC when its value changes (R95). -/
def derate (s : State) : State :=
  let v := wfcBudget s.cfg.cnom s.cfg.hOn s.cfg.hOff (s.reconciler.reference.point.map OutdoorPoint.h)
  if v = s.allocator.wfc.value then s
  else allocate .wfc { s with allocator := { s.allocator with wfc := { s.allocator.wfc with value := v } } }

/-! ### The outdoor reference (R60 to R64, R70) -/

/-- The own candidate (R60). -/
def ownCandidate (s : State) : Option (Int × Int) :=
  match s.reconciler.own, s.reading .outT, s.reading .outW with
  | .included, some t, some w => some (t, w)
  | _, _, _ => none

/-- The candidate of a record (R61). -/
def peerCandidate (c : Settings) (r : PeerRecord) : Option (Int × Int) :=
  match r.said.observation with
  | some o =>
    if r.state = .live ∧ heightDistance c.height r.said.height ≤ c.reach then
      some (correctedTemp c.lapse c.height r.said.height o.t, clampInt 0 3000 o.w)
    else none
  | none => none

/-- The peer candidates that stand (R61). -/
def peerCandidates (s : State) : List (Int × Int) := s.table.records.filterMap (peerCandidate s.cfg)

/-- All candidates that stand (R63). -/
def candidates (s : State) : List (Int × Int) := (ownCandidate s).toList ++ peerCandidates s

/-- The reconciler's record after a recomputation over a list of candidates (R63, R64). -/
def recomputed (holdMs : Nat) (cs : List (Int × Int)) (r : Reconciler) : Reconciler :=
  match lowerMedian (cs.map Prod.fst), lowerMedian (cs.map Prod.snd), r.reference with
  | some t, some w, _ =>
    { r with reference := .fresh { t := t, w := w, h := enthalpy t w }, count := cs.length, hold := none }
  | _, _, .fresh p => { r with reference := .held p, count := 0, hold := some holdMs }
  | _, _, .held p => { r with reference := .held p, count := 0 }
  | _, _, .invalid => { r with count := 0 }

/-- A change of the reference is reported to the allocator (R70). -/
def reportReference (before : Reference) (s : State) : State :=
  if s.reconciler.reference = before then s else derate s

/-- A recomputation of the reference (R62 to R64) and its report (R70). -/
def recompute (s : State) : State :=
  reportReference s.reconciler.reference
    (refreshAlarm { s with reconciler := recomputed (mins s.cfg.holdLimit) (candidates s) s.reconciler })

/-! ### Moves of the lifecycle state (R170, R180 to R182) -/

/-- The lifecycle state changes; ISOLATED is a fault (R170), and SERVICE holds ALARM on (R190). -/
def setLifecycle (l : Lifecycle) (s : State) : State := refreshAlarm { s with startUp := { s.startUp with lifecycle := l } }

/-- The scan timer starts, unless the source is EXTERNAL (R40). -/
def startScanTimer (s : State) : State :=
  { s with
    scanner :=
      { s.scanner with scanTimer := if s.cfg.scanSource = .external then none else some s.cfg.scanPeriod } }

/-- Entry to LISTEN: listen and last-heard timers (R169, R180). -/
def enterListen (s : State) : State :=
  setLifecycle .listen
    { s with
      startUp := { s.startUp with listenTimer := some (secs (3 * s.cfg.announcePeriod)) }
      bus := { s.bus with lastHeard := some (secs (5 * s.cfg.announcePeriod)) } }

/-- When eligibility returns the own requests in force are 0, and the next decision sets them (R110, R171, R181). They are so already
where a decision fell while the station was not eligible; where none did, R97 and R24 have the last decision's (DESIGN CHOICE, log 26). -/
def clearRequests (s : State) : State := { s with engine := { s.engine with reliefRequest := 0, wfcRequest := 0 } }

/-- Entry to ACTIVE: allocations of both budgets, with no own request (R110, R181). -/
def enterActive (s : State) : State := allocateBoth (clearRequests (setLifecycle .active s))

/-- Entry to ISOLATED (R170): the fault and its sticky flag, the last-heard timer stopped, the fan suspended (R130), and, from ACTIVE,
the zeroing of R109 and the hold test of R19. The suspension stands before the grants are zeroed (DEDUCED, log 14). -/
def enterIsolated (s : State) : State :=
  let s1 := fanFollows (setSticky .isolated (setLifecycle .isolated { s with bus := { s.bus with lastHeard := none } }))
  if s.startUp.lifecycle = .active then holdTest (zeroGrants s1) else s1

/-- ISOLATED becomes JOINING: the own-announcement count starts again, and the suspension may end (R130, R170). -/
def rejoin (s : State) : State :=
  fanFollows (setLifecycle .joining { s with startUp := { s.startUp with ownCount := 0 } })

/-- Whether the last-heard timer is restarted by a frame (R169). -/
def Lifecycle.hearing : Lifecycle → Bool
  | .listen | .joining | .active | .isolated => true
  | .config | .commission | .service => false

/-- A frame from another station: the heard mark, the last-heard timer, and JOINING when ISOLATED, before the frame is handed on (R159,
R169, R170). -/
def hearStation (s : State) : State :=
  let s := if s.startUp.lifecycle = .isolated then rejoin s else s
  { s with
    bus :=
      { s.bus with
        heard := true
        lastHeard := if s.startUp.lifecycle.hearing then some (secs (5 * s.cfg.announcePeriod)) else s.bus.lastHeard } }

/-- An address clash: the clash timer starts or restarts, and a clash that is new zeroes the grants (R109, R167). -/
def judgeClash (s : State) : State :=
  let t := { s with bus := { s.bus with clashTimer := some (secs (10 * s.cfg.announcePeriod)), clash := true } }
  if s.bus.clash then t else zeroGrants (setSticky .addressClash (refreshAlarm t))

/-- BUS_STUCK becomes present or absent, and the fan suspension follows it (R130, R155). -/
def setStuck (v : Bool) (s : State) : State := fanFollows (refreshAlarm { s with bus := { s.bus with stuck := v } })

/-! ### Warm restart (R184) -/

/-- A damper goes to its safe-state position; one whose drive moves has its settle timer started (R145, R151). -/
def safeDamper (stroke command : Nat) (d : DamperState) : DamperState :=
  { d with
    command := command, mismatches := 0, settle := if d.command = command then d.settle else some (secs stroke) }

/-- The output stage at a warm restart: the safe state, polarity outcomes kept (R151). -/
def safeOutput (c : Settings) (o : Output) : Output :=
  { startOutput c.fmin with
    bypass := safeDamper c.strokeTime 1000 o.bypass, outdoor := safeDamper c.strokeTime c.fmin o.outdoor }

/-- A warm restart: what R184 keeps is kept, every other block takes its start values, and the station enters LISTEN. -/
def warmStart (s : State) : State :=
  startScanTimer
    (enterListen
      { s with
        startUp := { s.startUp with ownCount := 0, restartPending := false }
        scanner := startScanner s.cfg
        rotation := idleRotation
        reconciler := startReconciler
        engine := startEngine s.cfg
        table := startTable
        allocator := startAllocator s.cfg
        stagger := idleStagger
        fan := { s.fan with suspended := false }
        output := safeOutput s.cfg s.output
        bus := startBus .waitIdle })

end Sys2Proof.Machine
end

