-- ==== Sys2Proof/Machine/Clock.lean ====
section
/-! DEFINITION. The passing of one millisecond, which a step takes on an empty queue (DESIGN CHOICE, log 3): every running timer has a
millisecond less, every elapsed time a millisecond more. No timer expires by it: an expiry is a command (log 4). -/

namespace Sys2Proof.Machine

/-- A running timer has a millisecond less, down to 0. -/
def runDown (t : Timer) : Timer := t.map fun n => n - 1

/-- A damper's settle timer runs (R145). -/
def DamperState.tick (d : DamperState) : DamperState := { d with settle := runDown d.settle }

/-- The transmitter after a millisecond: byte 0 takes ten bit times, about 0.26 ms, so a contention not lost by now is won (R163). -/
def contentionOver : Transmitter → Transmitter
  | .contending => .sending
  | .quiet => .quiet
  | .sending => .sending

/-- The off-delay timer runs while the fan control is active and not suspended; it is frozen otherwise (R130, R131). -/
def fanClock (s : State) : Timer := if fanActive s && !s.fan.suspended then runDown s.fan.offDelay else s.fan.offDelay

/-- One millisecond passes. -/
def tick (s : State) : State :=
  { s with
    startUp := { s.startUp with configTimer := runDown s.startUp.configTimer, listenTimer := runDown s.startUp.listenTimer }
    scanner :=
      { s.scanner with
        scanTimer := runDown s.scanner.scanTimer
        scanOutTimer := runDown s.scanner.scanOutTimer
        scan := s.scanner.scan.map fun f => { f with left := f.left - 1 } }
    rotation := { s.rotation with gate := runDown s.rotation.gate }
    reconciler := { s.reconciler with hold := runDown s.reconciler.hold }
    engine :=
      { s.engine with forceBypass := runDown s.engine.forceBypass, decisionTimer := runDown s.engine.decisionTimer }
    table := { s.table with records := s.table.records.map fun r => { r with silence := r.silence + 1 } }
    stagger :=
      { s.stagger with
        windowTimer := runDown s.stagger.windowTimer
        slotTimer := runDown s.stagger.slotTimer
        backoff := runDown s.stagger.backoff }
    fan := { s.fan with offDelay := fanClock s }
    output :=
      { s.output with
        idle := s.output.idle.map fun n => min (mins s.cfg.purgeInterval) (n + 1)
        purge := runDown s.output.purge
        bypass := s.output.bypass.tick
        outdoor := s.output.outdoor.tick
        test := s.output.test.map fun t => { t with left := t.left - 1 } }
    bus :=
      { s.bus with
        transmitter := contentionOver s.bus.transmitter
        announceTimer := runDown s.bus.announceTimer
        lastHeard := runDown s.bus.lastHeard
        clashTimer := runDown s.bus.clashTimer } }

end Sys2Proof.Machine
end

