-- ==== Sys2Proof/Machine/Peers.lean ====
section
/-! DEFINITION. The peer table: what an ANNOUNCE does, and SILENCE_COASTING, SILENCE_LOST and SILENCE_FREED (spec/05). -/

namespace Sys2Proof.Machine

/-- The record of an address. -/
def findRecord (address : Nat) : List PeerRecord → Option PeerRecord
  | [] => none
  | r :: rs => if r.address = address then some r else findRecord address rs

/-- A record inserted at the place its address gives it (R74). -/
def insertRecord (r : PeerRecord) : List PeerRecord → List PeerRecord
  | [] => [r]
  | x :: xs => if r.address < x.address then r :: x :: xs else x :: insertRecord r xs

/-- The records without that of an address (R74). -/
def removeRecord (address : Nat) (l : List PeerRecord) : List PeerRecord := l.filter fun r => decide (r.address ≠ address)

/-- A record replaced in its place. -/
def replaceRecord (r : PeerRecord) (l : List PeerRecord) : List PeerRecord := l.map fun x => if x.address = r.address then r else x

/-- The record an accepted ANNOUNCE makes: fields and membership from it, height clamped, LIVE, silence from 0 (R72, R73, R79, R80). -/
def recordFrom (c : Settings) (source gaps : Nat) (a : Announcement) : PeerRecord where
  address := source
  sameRiser := decide (c.riserGroup ≠ 0 ∧ a.riserGroup = c.riserGroup)
  samePlant := decide (c.plantGroup ≠ 0 ∧ a.plantGroup = c.plantGroup)
  state := .live
  silence := 0
  gapCount := gaps
  said := { a with height := min 600 a.height }

/-- What one change of the table is reported as (R90, R101): to the reconciler, as an allocation of a budget, to the fan control. -/
structure Report where
  reference : Bool
  relief : Bool
  wfc : Bool
  fan : Bool
  deriving DecidableEq, Repr

/-- The allocations a report starts (R101). -/
def reportAllocate (p : Report) (s : State) : State :=
  let s := if p.relief then allocate .relief s else s
  if p.wfc then allocate .wfc s else s

/-- The recomputation a report starts (R62). -/
def reportRecompute (p : Report) (s : State) : State := if p.reference then recompute s else s

/-- The reports of one change, the table changed whole; the order of reconciler and allocator is given (R90, R102). -/
def reportChange (order : ReportOrder) (p : Report) (s : State) : State :=
  let s := match order with
    | .reconcilerFirst => reportAllocate p (reportRecompute p s)
    | .allocatorFirst => reportRecompute p (reportAllocate p s)
  if p.fan then evaluateFan s else s

/-- The records are replaced. -/
def setRecords (l : List PeerRecord) (s : State) : State := { s with table := { s.table with records := l } }

/-- The report of an acceptance (R90, R101). -/
def acceptReport (old new : PeerRecord) : Report :=
  let membership := decide (old.sameRiser ≠ new.sameRiser ∨ old.samePlant ≠ new.samePlant)
  let state := decide (old.state ≠ new.state)
  let flag := decide (old.said.flag ≠ new.said.flag)
  let claim (b : Budget) :=
    (old.memberOf b || new.memberOf b) &&
      (membership || state || flag || decide ((old.said.claim b).request ≠ (new.said.claim b).request) ||
        decide ((old.said.claim b).cap ≠ (new.said.claim b).cap))
  { reference := true
    relief := claim .relief
    wfc := claim .wfc
    fan :=
      (old.sameRiser || new.sameRiser) &&
        (state || membership || decide (old.said.relief.inUse ≠ new.said.relief.inUse)) }

/-- An ANNOUNCE is accepted into a record, with a gap count (R79). -/
def acceptAnnounce (order : ReportOrder) (old : PeerRecord) (gaps : Nat) (a : Announcement) (s : State) : State :=
  let new := recordFrom s.cfg old.address gaps a
  reportChange order (acceptReport old new) (setRecords (replaceRecord new s.table.records) s)

/-- An ANNOUNCE for an existing record (R76 to R79). -/
def knownAnnounce (order : ReportOrder) (r : PeerRecord) (a : Announcement) (s : State) : State :=
  if r.state = .lost then acceptAnnounce order r r.gapCount a s
  else if a.sequence = r.said.sequence then s
  else if a.sequence = (r.said.sequence + 1) % 256 then acceptAnnounce order r r.gapCount a s
  else acceptAnnounce order r (satInc 255 r.gapCount) a (countSeqGap s)

/-- Of two LOST records, the one evicted first: longer silence, then higher address (R81). -/
def laterSilence (a b : PeerRecord) : PeerRecord :=
  if a.silence < b.silence ∨ (a.silence = b.silence ∧ a.address < b.address) then b else a

/-- Of two outdoor-only records, the one evicted first: farther from the own height, then higher address (R81). -/
def farther (h : Nat) (a b : PeerRecord) : PeerRecord :=
  let d (r : PeerRecord) : Nat := ((r.said.height : Int) - h).natAbs
  if d a < d b ∨ (d a = d b ∧ a.address < b.address) then b else a

/-- The record a choice prefers among a list. -/
def preferred (choose : PeerRecord → PeerRecord → PeerRecord) : List PeerRecord → Option PeerRecord
  | [] => none
  | r :: rs =>
    match preferred choose rs with
    | some x => some (choose r x)
    | none => some r

/-- The record to evict for a member newcomer at a full table (R81). -/
def victim (h : Nat) (l : List PeerRecord) : Option PeerRecord :=
  match preferred laterSilence (l.filter fun r => decide (r.state = .lost)) with
  | some r => some r
  | none => preferred (farther h) (l.filter PeerRecord.outdoorOnly)

/-- A new record is inserted, which ends LONE, in place of an evicted one if there is one; both are reported at once (R80, R83, R91). -/
def insertNew (order : ReportOrder) (evicted : Option PeerRecord) (new : PeerRecord) (s : State) : State :=
  let kept := match evicted with
    | some v => removeRecord v.address s.table.records
    | none => s.table.records
  reportChange order
    { reference := true
      relief := new.sameRiser || evicted.any PeerRecord.sameRiser
      wfc := new.samePlant || evicted.any PeerRecord.samePlant
      fan := new.sameRiser || evicted.any fun v => v.sameRiser && decide (v.state ≠ .lost) }
    { s with table := { records := insertRecord new kept, lone := false } }

/-- An ANNOUNCE from an address without a record (R80 to R82). -/
def newAnnounce (order : ReportOrder) (source : Nat) (a : Announcement) (s : State) : State :=
  let new := recordFrom s.cfg source 0 a
  if s.table.records.length < 32 then insertNew order none new s
  else if new.outdoorOnly then countRefusal s
  else
    match victim s.cfg.height s.table.records with
    | some v => insertNew order (some v) new s
    | none => countRefusal s

/-- The peer table takes an ANNOUNCE: not from address 0 (R74), and not in CONFIG or COMMISSION (R75). A SERVICE station keeps its table, but no
query reads it (log 25). -/
def takeAnnounce (order : ReportOrder) (source : Nat) (a : Announcement) (s : State) : State :=
  if source = 0 ∨ s.startUp.lifecycle = .config ∨ s.startUp.lifecycle = .commission then s
  else
    match findRecord source s.table.records with
    | some r => knownAnnounce order r a s
    | none => newAnnounce order source a s

/-! ### Ageing (R84 to R87) -/

/-- The report of an ageing or a freeing of a record: its group's allocations, and what else R90 names. -/
def ageReport (reference fan : Bool) (r : PeerRecord) : Report :=
  { reference := reference, relief := r.sameRiser, wfc := r.samePlant, fan := fan }

/-- A record after an expiry point: its state, and its silence at least the point (log 5). -/
def aged (r : PeerRecord) (st : PeerState) (multiple : Nat) : PeerRecord :=
  { r with state := st, silence := max r.silence (secs (multiple * r.pp)) }

/-- At 2 × Pp a LIVE record becomes COASTING (R85). -/
def coast (order : ReportOrder) (r : PeerRecord) (s : State) : State :=
  reportChange order (ageReport true false r) (setRecords (replaceRecord (aged r .coasting 2) s.table.records) s)

/-- At 6 × Pp a COASTING record becomes LOST (R86). -/
def lose (r : PeerRecord) (s : State) : State :=
  reportChange .allocatorFirst (ageReport false r.sameRiser r)
    (setRecords (replaceRecord (aged r .lost 6) s.table.records) s)

/-- At 30 × Pp a LOST record is freed (R87). -/
def free (order : ReportOrder) (r : PeerRecord) (s : State) : State :=
  reportChange order (ageReport true false r) (setRecords (removeRecord r.address s.table.records) s)

/-- The silence of a record has reached a multiple of Pp, by the station's count of it or by the clock that sends the expiry (R84; log 5). An
accepted ANNOUNCE taken first has set the silence to 0, and the expiry does not happen (R88, R89). -/
def silent (multiple elapsed : Nat) (r : PeerRecord) : Bool := decide (secs (multiple * r.pp) ≤ max r.silence elapsed)

/-- The record an expiry is for: that of the address, in a state, when its silence has reached the point. -/
def recordDue (s : State) (expiry : SilenceExpiry) (st : PeerState) (multiple : Nat) : Option PeerRecord :=
  (findRecord expiry.peer.toNat s.table.records).filter fun r => decide (r.state = st) && silent multiple expiry.elapsed r

/-- SILENCE_COASTING (R85). -/
def execSilenceCoasting (expiry : SilenceExpiry) (order : ReportOrder) (s : State) : Host.Outcome State Fault Refusal :=
  .next
    (match recordDue s expiry .live 2 with
     | some r => coast order r s
     | none => s)

/-- SILENCE_LOST (R86). -/
def execSilenceLost (expiry : SilenceExpiry) (s : State) : Host.Outcome State Fault Refusal :=
  .next
    (match recordDue s expiry .coasting 6 with
     | some r => lose r s
     | none => s)

/-- SILENCE_FREED (R87). -/
def execSilenceFreed (expiry : SilenceExpiry) (order : ReportOrder) (s : State) : Host.Outcome State Fault Refusal :=
  .next
    (match recordDue s expiry .lost 30 with
     | some r => free order r s
     | none => s)

end Sys2Proof.Machine
end

