-- ==== Sys2Proof/Machine/Wheel.lean ====
section
/-! DEFINITION. The output stage's commands: IDLE_TIMER_EXPIRY, PURGE_TIMER_EXPIRY, SETTLE_TIMER_EXPIRY and POLARITY_PHASE_END, and the
mismatch monitoring of a decision (spec/08, R133 to R152). -/

namespace Sys2Proof.Machine

/-- IDLE_TIMER_EXPIRY: the idle timer of a STOPPED wheel has reached the purge interval (R137). -/
def execIdleTimerExpiry (s : State) : Host.Outcome State Fault Refusal :=
  .next (if s.output.idle.isSome ∧ s.output.wheel = .stopped then moveWheel .purging s else s)

/-- PURGE_TIMER_EXPIRY (R138). -/
def execPurgeTimerExpiry (s : State) : Host.Outcome State Fault Refusal :=
  .next (if s.output.purge.isSome ∧ s.output.wheel = .purging then moveWheel .stopped s else s)

/-- SETTLE_TIMER_EXPIRY: the damper is no longer settling (R145). -/
def execSettleTimerExpiry (d : Damper) (s : State) : Host.Outcome State Fault Refusal :=
  .next
    (if (s.output.damper d).settle.isSome then
       { s with output := s.output.setDamper d { s.output.damper d with settle := none } }
     else s)

/-- The feedback quantity of a damper (R143). -/
def feedbackOf : Damper → Quantity
  | .bypass => .bypFb
  | .outdoor => .oaFb

/-- A damper receives an outcome: DAMPER, its sticky flag when it becomes present, and ALARM follow (R144); an outdoor FAULT in
ECONOMIZE forces BYPASS (R21). -/
def setOutcome (d : Damper) (o : Polarity) (s : State) : State :=
  let t := refreshAlarm { s with output := s.output.setDamper d { s.output.damper d with outcome := o } }
  let t := if t.output.anyDamperFault && !s.output.anyDamperFault then setSticky .damper t else t
  if d = .outdoor ∧ o = .fault ∧ s.engine.applied = .economize then forcedChange t else t

/-! ### Mismatch monitoring (R146, R147) -/

/-- A feedback reading by the polarity outcome: none where the outcome is not monitored (R144). -/
def feedbackReading (o : Polarity) (average : Option Int) : Option Int :=
  match o, average with
  | .normal, some v => some v
  | .reversed, some v => some (1000 - v)
  | _, _ => none

/-- The judgement of a damper at a decision timer expiry, from the state as the expiry is taken: `some true` a mismatch, `some false`
an agreement, `none` not judged (R146). -/
def judgement (d : Damper) (s : State) : Option Bool :=
  if (s.output.damper d).settle.isSome then none
  else
    (feedbackReading (s.output.damper d).outcome (s.reading (feedbackOf d))).map fun v =>
      decide (200 < (((s.output.damper d).command : Int) - v).natAbs)

/-- The mismatch count of a damper is set. -/
def setMismatches (d : Damper) (n : Nat) (s : State) : State :=
  { s with output := s.output.setDamper d { s.output.damper d with mismatches := n } }

/-- A judgement takes effect: an agreement clears the count, a mismatch raises it, and the third makes the damper FAULT (R146). -/
def applyJudgement (d : Damper) (j : Option Bool) (s : State) : State :=
  match j with
  | none => s
  | some false => setMismatches d 0 s
  | some true =>
    if 3 ≤ (s.output.damper d).mismatches + 1 then setOutcome d .fault (setMismatches d 0 s)
    else setMismatches d ((s.output.damper d).mismatches + 1) s

/-- Both dampers' judgements, made on one state, take effect on another (R146, R147; log 16). -/
def applyJudgements (from_ s : State) : State :=
  applyJudgement .outdoor (judgement .outdoor from_) (applyJudgement .bypass (judgement .bypass from_) s)

/-! ### The polarity test (R142, R143) -/

/-- The outcome of a damper's readings (R143). -/
def polarityOf : Option Int → Option Int → Polarity
  | some a, some b => if 500 ≤ b - a then .normal else if 500 ≤ a - b then .reversed else .fault
  | _, _ => .untested

/-- The phase of the test becomes another, with the dampers driven to its commands; each drive that changes starts its settle timer
(R142, R145). -/
def drivePhase (t : PolarityTest) (byp oa : Nat) (s : State) : State :=
  setCommand .outdoor oa (setCommand .bypass byp { s with output := { s.output with test := some t } })

/-- A polarity test phase ends (R142, R143): a reading, an outcome at the end of a high phase, and the next phase; after the fourth, LISTEN
(R180). -/
def phaseEnds (t : PolarityTest) (s : State) : State :=
  let left := secs s.cfg.strokeTime
  match t.phase with
  | .bypassLow =>
    drivePhase { t with phase := .bypassHigh, left := left, bypassA := s.reading .bypFb } 1000 s.cfg.fmin s
  | .bypassHigh =>
    drivePhase { t with phase := .outdoorLow, left := left } 1000 0
      (setOutcome .bypass (polarityOf t.bypassA (s.reading .bypFb)) s)
  | .outdoorLow =>
    drivePhase { t with phase := .outdoorHigh, left := left, outdoorA := s.reading .oaFb } 1000 1000 s
  | .outdoorHigh =>
    let s1 := setOutcome .outdoor (polarityOf t.outdoorA (s.reading .oaFb)) s
    enterListen (setCommand .outdoor s.cfg.fmin { s1 with output := { s1.output with test := none } })

/-- POLARITY_PHASE_END (R142). -/
def execPolarityPhaseEnd (s : State) : Host.Outcome State Fault Refusal :=
  .next
    (match s.output.test with
     | some t => if s.startUp.lifecycle = .commission then phaseEnds t s else s
     | none => s)

end Sys2Proof.Machine
end

