-- ==== Sys2Proof/Machine/Decision.lean ====
section
/-! DEFINITION. DECISION, the eight stages of the decision engine (spec/01, R2 to R17), FORCE_BYPASS_TIMER_EXPIRY (R22), and the completion of a
staggered change (R18). -/

namespace Sys2Proof.Machine

/-- Dh as the engine reads it: 0 unless VALID (R3). -/
def demandHeat (s : State) : Nat := ((s.reading .heatDem).getD 0).toNat

/-- Dc as the engine reads it: 0 unless VALID (R3). -/
def demandCool (s : State) : Nat := ((s.reading .coolDem).getD 0).toNat

/-- The values a decision outside fallback compares: return temperature and enthalpy, reference temperature and enthalpy (R3). -/
structure Air where
  retT : Int
  hr : Int
  outT : Int
  ho : Int
  deriving DecidableEq, Repr

/-- The return enthalpy, with both return quantities VALID (R3). -/
def returnEnthalpy (s : State) : Option Int :=
  match s.reading .retT, s.reading .retW with
  | some t, some w => some (enthalpy t w)
  | _, _ => none

/-- The air of a decision; none in fallback: RET_T or RET_W not VALID, or the reference INVALID (R6). -/
def airOf (s : State) : Option Air :=
  match s.reading .retT, returnEnthalpy s, s.reconciler.reference.point with
  | some t, some h, some p => some { retT := t, hr := h, outT := p.t, ho := p.h }
  | _, _, _ => none

/-! ### Stages 1 to 3 -/

/-- Stage 1 (R4). -/
def stageDwell (s : State) : State := { s with engine := { s.engine with dwell := satInc 255 s.engine.dwell } }

/-- A grant in use adopts the own share; a station that may hold none adopts 0 (R5). -/
def adopt (b : Budget) (s : State) : State :=
  { s with
    allocator :=
      s.allocator.set b
        { s.allocator.get b with grant := if eligible s then (s.allocator.get b).ownShare else 0 } }

/-- Stage 2: both grants are adopted, and valve, outdoor damper and fan see them (R5). -/
def stageAdopt (s : State) : State := evaluateFan (driveDampers (driveValve (adopt .wfc (adopt .relief s))))

/-- The regime of the demands (R6). -/
def regimeOf (dh dc : Nat) : Regime :=
  if 50 ≤ dh ∧ dc < dh then .heating else if 50 ≤ dc ∧ dh ≤ dc then .cooling else .neutral

/-- Stage 3 (R6). -/
def stageRegime (s : State) : State :=
  { s with
    engine := { s.engine with regime := regimeOf (demandHeat s) (demandCool s), fallback := (airOf s).isNone } }

/-! ### Stage 4 (R7, R8) -/

/-- The RECOVER test of the HEATING regime, with its band (R7). -/
def heatingRecovers (c : Settings) (applied : Mode) (a : Air) : Bool :=
  decide ((c.dTrec : Int) - (if applied.inPair then (c.recBand : Int) else 0) ≤ a.retT - a.outT)

/-- The RECOVER test of the COOLING regime, with its band (R8). -/
def coolingRecovers (c : Settings) (applied : Mode) (a : Air) : Bool :=
  decide (a.hr + c.mr - (if applied.inPair then (c.hb : Int) else 0) ≤ a.ho)

/-- The three ECONOMIZE tests of the COOLING regime, with the band (R8). -/
def economizes (c : Settings) (applied : Mode) (a : Air) : Bool :=
  decide (a.ho ≤ a.hr - c.me + (if applied = .economize then (c.hb : Int) else 0)) && decide (a.outT ≤ a.retT - 10) &&
    decide (c.tlow ≤ a.outT)

/-- The candidate outside fallback (R7, R8). -/
def candidateOf (c : Settings) (g : Regime) (applied : Mode) (a : Air) : Target :=
  match g with
  | .neutral => .bypass
  | .heating => if heatingRecovers c applied a then .recover else .bypass
  | .cooling =>
    if economizes c applied a then .economize else if coolingRecovers c applied a then .recover else .bypass

/-- The fallback mode as a candidate (R6). -/
def FallbackMode.target : FallbackMode → Target
  | .bypass => .bypass
  | .recover => .recover

/-- Stage 4, or the fallback mode in its place (R6 to R8). -/
def stageCandidate (s : State) : State :=
  let t := match airOf s with
    | some a => candidateOf s.cfg s.engine.regime s.engine.applied a
    | none => s.cfg.fallbackMode.target
  { s with engine := { s.engine with candidate := t } }

/-! ### Stage 5 (R9, R134) -/

/-- The conditions for the economizer relief request, outside fallback (R6, R9). -/
def wantsRelief (s : State) : Bool :=
  (airOf s).isSome && decide (s.engine.candidate = .economize) && s.engine.forceBypass.isNone &&
    decide (s.output.outdoor.outcome ≠ .fault) && eligible s

/-- The relief request of stage 5 (R9). -/
def reliefRequestNow (s : State) : Nat :=
  if wantsRelief s then reliefRequestOf s.cfg.fmin s.cfg.qs (wantedFraction s.cfg.fmin (demandCool s)) else 0

/-- The wanted fraction in force that goes with it (R134). -/
def wantedNow (s : State) : Nat := if wantsRelief s then wantedFraction s.cfg.fmin (demandCool s) else s.cfg.fmin

/-- The WFC request of stage 5: COOLING and Ho < H_off, outside fallback (R6, R9). -/
def wfcRequestNow (s : State) : Nat :=
  match airOf s with
  | some a =>
    if s.engine.regime = .cooling ∧ a.ho < s.cfg.hOff ∧ eligible s then wfcRequestOf s.cfg.lc (demandCool s) else 0
  | none => 0

/-- Stage 5: requests, caps, wanted fraction, OA_POS and the hold test (R9, R19, R134). -/
def stageRequests (s : State) : State :=
  holdTest
    (driveDampers
      { s with
        engine :=
          { s.engine with
            reliefRequest := reliefRequestNow s
            wfcRequest := wfcRequestNow s
            reliefCap := reliefCapOf s.cfg.fmin s.cfg.qs
            wfcCap := s.cfg.lc }
        output := { s.output with wanted := wantedNow s } })

/-! ### Stages 6 and 7 (R10 to R13) -/

/-- ECONOMIZE can be used (R10). -/
def economizeAvailable (s : State) : Bool :=
  decide (s.startUp.lifecycle = .active) && decide (s.output.outdoor.outcome ≠ .fault) &&
    decide (minShare s ≤ s.grant .relief)

/-- What takes the place of an unavailable ECONOMIZE (R10). -/
def withoutEconomize (s : State) : Target :=
  match airOf s with
  | some a => if coolingRecovers s.cfg s.engine.applied a then .recover else .bypass
  | none => .bypass

/-- The outcome of stage 6 (R10, R11). -/
def targetNow (s : State) : Target :=
  let t := if s.engine.candidate = .economize ∧ economizeAvailable s = false then withoutEconomize s else s.engine.candidate
  if s.engine.forceBypass.isSome then .bypass
  else if t = .recover ∧ s.output.wheel = .stalled then .bypass
  else t

/-- Stage 6. -/
def stageAvailability (s : State) : State := { s with engine := { s.engine with target := targetNow s } }

/-- The kind of a heavy change to a target, by the wheel state in force; none for a change that is not heavy (R13). -/
def heavyKind (w : Wheel) : Target → Option ChangeKind
  | .recover => if w = .stopped then some .wheelStart else none
  | .economize => some .econOpen
  | .bypass => none

/-- A heavy change is handed to the stagger; one equal to the pending one is not (R13). -/
def handHeavy (k : ChangeKind) (s : State) : State :=
  match s.stagger.pending with
  | some p => if p.kind = k then s else startPending k s
  | none => startPending k s

/-- Stage 7 (R12, R13). -/
def stageTarget (s : State) : State :=
  if s.engine.target.matchesMode s.engine.applied then cancelPending s
  else if s.engine.dwell < s.cfg.dwell then s
  else
    match heavyKind s.output.wheel s.engine.target with
    | some k => handHeavy k s
    | none =>
      applyMode s.engine.target.mode
        (let s := cancelPending s
         { s with engine := { s.engine with dwell := 0 } })

/-! ### Stage 8 (R14 to R17) -/

/-- The base speed (R14). -/
def baseSpeedNow (s : State) : Nat :=
  match s.engine.regime, airOf s with
  | .heating, _ => heatingTarget s.cfg.smin (demandHeat s)
  | .cooling, some a => coolingTarget s.cfg.smin s.cfg.sr (a.ho - a.hr - s.cfg.mr)
  | .cooling, none | .neutral, _ => s.cfg.smin

/-- Mode and speed target of the recovery pair in HEATING with an EXH_T average (R16). -/
def frostStep (c : Settings) (exh : Int) (e : Engine) : Engine :=
  if exh ≤ c.tf then { e with applied := .frost, speedTarget := max c.smin (e.speedTarget * 3 / 4) }
  else if exh < c.tf + c.frostBand then { e with speedTarget := min e.speedTarget e.baseSpeed }
  else if e.applied = .recover then { e with speedTarget := e.baseSpeed }
  else
    { e with
      speedTarget := min e.baseSpeed (e.speedTarget + 100)
      applied := if min e.baseSpeed (e.speedTarget + 100) = e.baseSpeed then .recover else e.applied }

/-- Mode and speed target of the recovery pair in HEATING without EXH_T, by To (R17). -/
def frostCap (outTemp : Option Int) (e : Engine) : Engine :=
  if outTemp.all fun t => decide (t ≤ -50) then
    { e with speedTarget := min e.baseSpeed 500, applied := if 500 < e.baseSpeed then .frost else .recover }
  else { e with speedTarget := e.baseSpeed, applied := .recover }

/-- The speed target and the member of the recovery pair, after the base speed; `entered`: RECOVER has just been applied (R15 to R17). -/
def speedRules (c : Settings) (exh outTemp : Option Int) (entered : Bool) (e : Engine) : Engine :=
  match e.applied.inPair, e.regime with
  | false, _ => { e with speedTarget := e.baseSpeed }
  | true, .neutral | true, .cooling => { e with applied := .recover, speedTarget := e.baseSpeed }
  | true, .heating =>
    let e := if entered then { e with speedTarget := e.baseSpeed } else e
    match exh with
    | some x => frostStep c x e
    | none => frostCap outTemp e

/-- The speed target is set, and a RUNNING wheel follows it (R15, R136). -/
def setSpeed (entered : Bool) (s : State) : State :=
  followSpeed
    { s with
      engine :=
        speedRules s.cfg (s.reading .exhT) (s.reconciler.reference.point.map OutdoorPoint.t) entered s.engine }

/-- Stage 8. -/
def stageSpeed (entered : Bool) (s : State) : State :=
  setSpeed entered { s with engine := { s.engine with baseSpeed := baseSpeedNow s } }

/-! ### The decision -/

/-- Stages 7 and 8: stage 8 knows whether RECOVER was applied at stage 7 (R15). -/
def stagesTargetSpeed (s : State) : State :=
  let t := stageTarget s
  stageSpeed (!s.engine.applied.inPair && t.engine.applied.inPair) t

/-- The eight stages, in their order (R2). -/
def decisionStages (s : State) : State :=
  stagesTargetSpeed (stageAvailability (stageRequests (stageCandidate (stageRegime (stageAdopt (stageDwell s))))))

/-- An allocation of each budget whose request differs from that of the decision before, after the decision (R9, R100). -/
def allocateChanged (before : Engine) (s : State) : State :=
  let s := if s.engine.reliefRequest = before.reliefRequest then s else allocate .relief s
  if s.engine.wfcRequest = before.wfcRequest then s else allocate .wfc s

/-- A decision with the allocations it triggers. -/
def decide_ (s : State) : State := allocateChanged s.engine (decisionStages s)

/-- An expiry of the running decision timer: it restarts (R2); the stages and the mismatch judgement come in the order given (R147). -/
def decisionExpires (order : DecisionOrder) (s : State) : State :=
  let s := { s with engine := { s.engine with decisionTimer := some (secs s.cfg.decisionPeriod) } }
  match order with
  | .judgementFirst => decide_ (applyJudgements s s)
  | .stagesFirst => applyJudgements s (decide_ s)

/-- DECISION (R2). -/
def execDecision (order : DecisionOrder) (s : State) : Host.Outcome State Fault Refusal :=
  .next (if s.engine.decisionTimer.isSome then decisionExpires order s else s)

/-- FORCE_BYPASS_TIMER_EXPIRY: the timer stops; the applied mode stays (R22). -/
def execForceBypassTimerExpiry (s : State) : Host.Outcome State Fault Refusal :=
  .next (if s.engine.forceBypass.isSome then { s with engine := { s.engine with forceBypass := none } } else s)

/-! ### Completion of a staggered change (R18) -/

/-- The test of a staggered target (R18). -/
def completionPasses (k : ChangeKind) (s : State) : Bool :=
  match k with
  | .econOpen => economizeAvailable s
  | .wheelStart => decide (s.output.wheel ≠ .stalled)

/-- The staggered change is applied, or lapses (R18). -/
def completeChange (k : ChangeKind) (s : State) : State :=
  if completionPasses k s then
    let t := applyMode k.target.mode { s with engine := { s.engine with dwell := 0 } }
    match k with
    | .wheelStart => setSpeed true t
    | .econOpen => t
  else s

end Sys2Proof.Machine
end

