-- ==== Sys2Proof/Machine/Service.lean ====
section
/-! DEFINITION. The service responder: the eight requests and an unknown one, the replies and their data (spec/11). -/

namespace Sys2Proof.Machine

/-! ### Reply data (R188) -/

/-- The lifecycle codes of RDST (R188). -/
def Lifecycle.code : Lifecycle → Nat
  | .config => 0
  | .commission => 1
  | .listen => 2
  | .joining => 3
  | .active => 4
  | .isolated => 5
  | .service => 6

/-- The wheel codes of RDST (R188). -/
def Wheel.code : Wheel → Nat
  | .stopped => 0
  | .purging => 1
  | .running => 2
  | .stalled => 3

/-- The quantity state codes of RDST (R188). -/
def QuantityState.code : QuantityState → Nat
  | .absent => 0
  | .filling => 1
  | .valid => 2
  | .failed => 3

/-- The record state codes of RDPR (R188). -/
def PeerState.code : PeerState → Nat
  | .live => 0
  | .coasting => 1
  | .lost => 2

/-- The phase codes of RDST (R188). -/
def Phase.code : Phase → Nat
  | .queued => 0
  | .window => 1
  | .slotWait => 2

/-- The reference state code of RDST (R188). -/
def Reference.code : Reference → Nat
  | .fresh _ => 0
  | .held _ => 1
  | .invalid => 2

/-- To, Wo and Ho, 0 when INVALID (R71, R188). -/
def referenceBytes (r : Reference) : List Byte :=
  match r.point with
  | some p => signedHalfOf p.t ++ signedHalfOf p.w ++ signedHalfOf p.h
  | none => [0, 0, 0, 0, 0, 0]

/-- The pending kind and phase byte; with nothing pending its phase nibble is a free value (R188, log 11). -/
def pendingByte (s : State) : Byte :=
  match s.stagger.pending with
  | some p => byteOf (p.kind.code * 16 + p.phase.code)
  | none => byteOf (Config.absentPhase s.freeDraws).toNat

/-- A two-byte field of a quantity: its average while VALID, else the free value given (R188, log 10). -/
def reportedAverage (v : Option Int) (free : Half) : List Byte :=
  match v with
  | some x => signedHalfOf x
  | none => halfOf free.toNat

/-- The wheel rpm field; a speed above 65535 does not fit, and the field is a free value (R188, log 12). -/
def rpmBytes (s : State) : List Byte :=
  if s.rotation.rpm ≤ 65535 then halfOf s.rotation.rpm else halfOf (Config.reportedFastRpm s.freeDraws).toNat

/-- Budget value, participant count, own share and grant in use (R113, R188). -/
def allocationBytes (a : Allocation) : List Byte :=
  halfOf a.value ++ [byteOf a.participants.length] ++ halfOf a.ownShare ++ halfOf a.grant

/-- Nine quantity states, two bits each, OUT_T first from the top bit, last six bits 0 (R188). -/
def quantityBytes (w : Windows) : List Byte :=
  let c (q : Quantity) : Nat := (w.get q).state.code
  [byteOf (c .outT * 64 + c .outW * 16 + c .retT * 4 + c .retW),
   byteOf (c .exhT * 64 + c .heatDem * 16 + c .coolDem * 4 + c .bypFb), byteOf (c .oaFb * 64)]

/-- The 43-byte status record (R188). -/
def statusRecord (s : State) : List Byte :=
  [byteOf (s.startUp.lifecycle.code + (if s.table.lone then 128 else 0)),
   byteOf (s.engine.applied.code * 16 + s.engine.target.mode.code), pendingByte s, byteOf s.output.wheel.code] ++
    rpmBytes s ++ [byteOf s.reconciler.reference.code] ++ referenceBytes s.reconciler.reference ++
    [byteOf s.reconciler.count] ++
    reportedAverage (s.reading .retT) (Config.reportedReturnTemp s.freeDraws) ++
    reportedAverage (s.reading .retW) (Config.reportedReturnMoisture s.freeDraws) ++
    signedHalfOf ((returnEnthalpy s).getD 0) ++ halfOf (demandHeat s) ++ halfOf (demandCool s) ++
    allocationBytes s.allocator.relief ++ allocationBytes s.allocator.wfc ++ quantityBytes s.scanner.windows ++
    [(faultsPresent s).toByte, s.responder.sticky.toByte]

/-- The eight device counters (R188). -/
def counterBytes (c : Counters) : List Byte :=
  halfOf c.crcErrors ++ halfOf c.framesAbandoned ++ halfOf c.contentionsLost ++ halfOf c.seqGaps ++
    halfOf c.tableRefusals ++ halfOf c.queriesDropped ++ halfOf c.sampleRejects ++ halfOf c.scanOverruns

/-- The 32 bytes of a peer record at an index of a table (R93, R188). -/
def recordBytes (index held : Nat) (r : PeerRecord) : List Byte :=
  [byteOf index, byteOf held, byteOf r.address,
   byteOf ((if r.sameRiser then 2 else 0) + (if r.samePlant then 1 else 0)), byteOf r.said.riserGroup,
   byteOf r.said.plantGroup] ++ halfOf r.said.height ++ [byteOf r.said.period, byteOf r.state.code] ++
    halfOf (min 65535 (r.silence / 1000)) ++ [byteOf r.said.sequence, byteOf r.gapCount, byteOf (stateByte r.said)] ++
    observationBytes r.said.observation ++ claimBytes r.said.relief ++ claimBytes r.said.wfc ++ [r.said.faults]

/-! ### Answering (R186, R187) -/

/-- What an action answers: the state it leaves, its result code and its data. -/
structure Answer where
  state : State
  result : Nat
  data : List Byte

/-- DONE with no data. -/
def done (s : State) : Answer := { state := s, result := 0, data := [] }

/-- The responder answers in LISTEN, JOINING, ACTIVE and ISOLATED (R186). -/
def Lifecycle.answers : Lifecycle → Bool
  | .listen | .joining | .active | .isolated => true
  | .config | .commission | .service => false

/-- The responder takes a query: dropped and counted when both REPLY slots hold a frame; else its action is performed and the REPLY,
built from the values as they then stand, is placed (R161, R186). -/
def respond (querier : Nat) (kind : Byte) (act : State → Answer) (s : State) : State :=
  if s.startUp.lifecycle.answers then
    if 2 ≤ s.bus.replySlots.length then countDropped s
    else
      placeReply
        (buildFrame .reply s.startUp.address (replyBody querier kind.toNat (act s).result (act s).data)) (act s).state
  else s

/-- RDST: the status record (R188). A reply draws fresh free values. -/
def answerRdst (s : State) : Answer :=
  { state := { s with freeDraws := s.freeDraws + 1 }, result := 0, data := statusRecord s }

/-- RDCT: the counters (R188). -/
def answerRdct (s : State) : Answer := { state := s, result := 0, data := counterBytes s.counters }

/-- RDPR: the record at the index, or NO_ENTRY with no data (R93, R187). -/
def answerRdpr (index : Nat) (s : State) : Answer :=
  match s.table.records[index]? with
  | some r => { state := s, result := 0, data := recordBytes index s.table.records.length r }
  | none => { state := s, result := 1, data := [] }

/-- CLRC: counters and sticky flags to 0 (R187, R189). -/
def answerClrc (s : State) : Answer :=
  done { s with counters := zeroCounters, responder := { s.responder with sticky := noFaults } }

/-- RSTW: a warm restart is marked pending (R184). -/
def answerRstw (s : State) : Answer := done { s with startUp := { s.startUp with restartPending := true } }

/-- FBYP: a forced change, and the force-bypass timer with the argument's minutes, at most 240; an argument of 0 is refused (R22,
R187). -/
def answerFbyp (minutes : Nat) (s : State) : Answer :=
  if minutes = 0 then { state := s, result := 2, data := [] }
  else
    let t := forcedChange s
    done { t with engine := { t.engine with forceBypass := some (mins (min 240 minutes)) } }

/-- FREL: a running force-bypass timer is cancelled (R22). -/
def answerFrel (s : State) : Answer := done { s with engine := { s.engine with forceBypass := none } }

/-- CLST: a STALLED wheel becomes STOPPED (R141). -/
def answerClst (s : State) : Answer := done (if s.output.wheel = .stalled then moveWheel .stopped s else s)

/-- An undefined request kind: UNKNOWN, no action (R187). -/
def answerUnknown (s : State) : Answer := { state := s, result := 3, data := [] }

/-- The action of a request kind (R187). -/
def actionOf (kind argument : Nat) (s : State) : Answer :=
  if kind = 1 then answerRdst s
  else if kind = 2 then answerRdct s
  else if kind = 3 then answerRdpr argument s
  else if kind = 4 then answerClrc s
  else if kind = 5 then answerRstw s
  else if kind = 6 then answerFbyp argument s
  else if kind = 7 then answerFrel s
  else if kind = 8 then answerClst s
  else answerUnknown s

end Sys2Proof.Machine
end

