-- ==== Sys2Proof/Machine/Stagger.lean ====
section
/-! DEFINITION. The transition stagger and relief fan control: INTENT_WINDOW_EXPIRY, SLOT_TIMER_EXPIRY, BACKOFF_TIMER_EXPIRY,
OFF_DELAY_TIMER_EXPIRY, and what an INTENT does to the stagger (spec/07). -/

namespace Sys2Proof.Machine

/-- A key takes its place in an ascending list (R121). -/
def insertKey (k : Key) : List Key → List Key
  | [] => [k]
  | x :: xs => if k.lower x then k :: x :: xs else x :: insertKey k xs

/-- An INTENT enters the intent list: it replaces the entry of its address, or is inserted; of more than 16 entries the one with the
largest key leaves, which may be the new one (R121). -/
def takeKey (k : Key) (l : List Key) : List Key :=
  (insertKey k (l.filter fun x => decide (x.address ≠ k.address))).take 16

/-- The phase of the pending transition is WINDOW. -/
def inWindow (s : State) : Bool := s.stagger.pending.any fun p => decide (p.phase = .window)

/-- An INTENT from another station: taken in WINDOW when its riser group is the own one and that is not 0 (R120). -/
def takeIntent (riser : Nat) (k : Key) (s : State) : State :=
  if inWindow s ∧ s.cfg.riserGroup ≠ 0 ∧ riser = s.cfg.riserGroup then
    { s with stagger := { s.stagger with intents := takeKey k s.stagger.intents } }
  else s

/-- The slot: the number of lower keys in the list, at most 15 (R122). -/
def slotOf (own : Key) (l : List Key) : Nat := min 15 (l.countP fun k => k.lower own)

/-- The intent window opens: phase WINDOW and its timer (R118, R119). -/
def openWindow (s : State) : State :=
  match s.stagger.pending with
  | some p =>
    { s with
      stagger :=
        { s.stagger with pending := some { p with phase := .window }, windowTimer := some (secs s.cfg.intentWindow) } }
  | none => s

/-- The slot expires: the pending transition ends, and the engine completes it (R18, R123). -/
def slotExpires (p : Pending) (s : State) : State := completeChange p.kind { s with stagger := idleStagger }

/-- The intent window expires: the slot is computed and the list emptied; slot 0 expires at once (R122). -/
def windowExpires (p : Pending) (s : State) : State :=
  let k := slotOf p.key s.stagger.intents
  if k = 0 then slotExpires p s
  else
    { s with
      stagger :=
        { idleStagger with
          pending := some { p with phase := .slotWait }, slotTimer := some (secs (k * s.cfg.staggerInterval)) } }

/-- INTENT_WINDOW_EXPIRY (R122). -/
def execIntentWindowExpiry (s : State) : Host.Outcome State Fault Refusal :=
  .next
    (match s.stagger.pending, s.stagger.windowTimer with
     | some p, some _ => windowExpires p s
     | _, _ => s)

/-- SLOT_TIMER_EXPIRY (R123). -/
def execSlotTimerExpiry (s : State) : Host.Outcome State Fault Refusal :=
  .next
    (match s.stagger.pending, s.stagger.slotTimer with
     | some p, some _ => slotExpires p s
     | _, _ => s)

/-- BACKOFF_TIMER_EXPIRY: the INTENT is placed in its slot again (R119). -/
def execBackoffTimerExpiry (s : State) : Host.Outcome State Fault Refusal :=
  .next
    (match s.stagger.pending, s.stagger.backoff with
     | some p, some _ => placeIntent (intentFrame s p.kind) { s with stagger := { s.stagger with backoff := none } }
     | _, _ => s)

/-- OFF_DELAY_TIMER_EXPIRY: an OFF_DELAY fan becomes OFF (R128); a frozen timer does not expire (R130, R131). -/
def execOffDelayTimerExpiry (s : State) : Host.Outcome State Fault Refusal :=
  .next
    (if fanActive s ∧ s.fan.suspended = false ∧ s.fan.offDelay.isSome ∧ s.fan.state = .offDelay then
       { s with fan := { s.fan with state := .off, offDelay := none, reliefRun := false } }
     else s)

end Sys2Proof.Machine
end

