-- ==== Sys2Proof/Machine/Receive.lean ====
section
/-! DEFINITION. The receiver, and the commands that bring a frame: ANNOUNCE, INTENT, REPLY_RECEIVED, QUERY_FOR_OTHER_STATION, the nine
queries to this station, START_BIT, FRAMING_ERROR and BAD_LENGTH (spec/09, R154, R158, R159, R167). -/

namespace Sys2Proof.Machine

/-- A frame of another station can reach the receiver: it is IDLE or COLLECTING, and the station is not sending itself (R154, R159;
log 9). -/
def canReceive (s : State) : Bool :=
  decide (s.bus.transmitter = .quiet) && (decide (s.bus.receiver = .idle) || decide (s.bus.receiver = .collecting))

/-- The receiver moves on; nothing is left of an abandoned frame. -/
def receiverTo (r : Receiver) (s : State) : State := { s with bus := { s.bus with receiver := r, remnant := false } }

/-- A frame that does not complete is discarded: counted, but for the rest of one the station abandoned (R154, R166). -/
def discardIncomplete (r : Receiver) (s : State) : State :=
  receiverTo r (if s.bus.remnant then s else countCrcError s)

/-- A valid frame: from the own address it is an address clash, in every state after CONFIG but SERVICE (R167); else it is from another
station, which is heard before the frame is handed on (R159). -/
def takeValid (source : Nat) (handOn : State → State) (s : State) : State :=
  if source = s.startUp.address ∧ s.startUp.lifecycle ≠ .config ∧ s.startUp.lifecycle ≠ .service then judgeClash s
  else handOn (hearStation s)

/-- A valid frame of another station is handed on by kind (R159): a QUERY only when it is addressed to this station and the station is not in
SERVICE, a REPLY to no block. -/
def handOnFrame (order : ReportOrder) (f : Frame) (s : State) : State :=
  match frameKind f with
  | some .announce => takeAnnounce order (frameSource f) (announcementOf f) s
  | some .intent => takeIntent (byteAt f 6) { height := min 600 (halfAt f 7), address := frameSource f } s
  | some .query =>
    if byteAt f 5 = s.startUp.address ∧ s.startUp.lifecycle ≠ .service then
      respond (frameSource f) (byteOf (byteAt f 6)) (actionOf (byteAt f 6) (halfAt f 7)) s
    else s
  | some .reply | none => s

/-- A complete frame goes to the checks of R158; one that fails is counted and handed to no block. -/
def checkFrame (order : ReportOrder) (f : Frame) (s : State) : State :=
  let s := receiverTo .waitIdle s
  if frameValid f then takeValid (frameSource f) (handOnFrame order f) s else countCrcError s

/-- The receiver takes the bytes of a frame (R154): too few to complete leave it COLLECTING, a body length above 48 is a bad length, and the
bytes past the last are not taken. -/
def receiveBytes (order : ReportOrder) (bytes : List Byte) (s : State) : State :=
  if canReceive s then
    if bytes.length < 3 then { s with bus := { s.bus with receiver := .collecting } }
    else if 48 < byteAt bytes 2 then discardIncomplete .waitIdle s
    else if bytes.length < 5 + byteAt bytes 2 then { s with bus := { s.bus with receiver := .collecting } }
    else checkFrame order (bytes.take (5 + byteAt bytes 2)) s
  else s

/-- A valid QUERY addressed to this station arrives, and the responder takes it (R159, R186). A station in SERVICE hears it and answers none,
RDPR included: R159, R172, R183, R185 and R186 against a clause of R75 (DESIGN CHOICE, log 25). -/
def receiveQuery (source : Addr) (kind : Byte) (act : State → Answer) (s : State) : State :=
  if canReceive s then
    takeValid source.toNat (fun t => if t.startUp.lifecycle = .service then t else respond source.toNat kind act t)
      (receiverTo .waitIdle s)
  else s

/-- ANNOUNCE (R79). -/
def execAnnounce (frame : Frame) (order : ReportOrder) (s : State) : Host.Outcome State Fault Refusal :=
  .next (receiveBytes order frame s)

/-- INTENT (R120). -/
def execIntent (frame : Frame) (s : State) : Host.Outcome State Fault Refusal :=
  .next (receiveBytes .reconcilerFirst frame s)

/-- REPLY_RECEIVED (R159). -/
def execReplyReceived (frame : Frame) (s : State) : Host.Outcome State Fault Refusal :=
  .next (receiveBytes .reconcilerFirst frame s)

/-- QUERY_FOR_OTHER_STATION (R159). -/
def execQueryForOtherStation (frame : Frame) (s : State) : Host.Outcome State Fault Refusal :=
  .next (receiveBytes .reconcilerFirst frame s)

/-- RDST (R188). The argument is not examined. -/
def execRdst (source : Addr) (_argument : Half) (s : State) : Host.Outcome State Fault Refusal :=
  .next (receiveQuery source 1 answerRdst s)

/-- RDCT (R188). The argument is not examined. -/
def execRdct (source : Addr) (_argument : Half) (s : State) : Host.Outcome State Fault Refusal :=
  .next (receiveQuery source 2 answerRdct s)

/-- RDPR (R93): the argument is the index. -/
def execRdpr (source : Addr) (argument : Half) (s : State) : Host.Outcome State Fault Refusal :=
  .next (receiveQuery source 3 (answerRdpr argument.toNat) s)

/-- CLRC (R187). The argument is not examined. -/
def execClrc (source : Addr) (_argument : Half) (s : State) : Host.Outcome State Fault Refusal :=
  .next (receiveQuery source 4 answerClrc s)

/-- RSTW (R184). The argument is not examined. -/
def execRstw (source : Addr) (_argument : Half) (s : State) : Host.Outcome State Fault Refusal :=
  .next (receiveQuery source 5 answerRstw s)

/-- FBYP (R22): the argument is a number of minutes. -/
def execFbyp (source : Addr) (argument : Half) (s : State) : Host.Outcome State Fault Refusal :=
  .next (receiveQuery source 6 (answerFbyp argument.toNat) s)

/-- FREL (R22). The argument is not examined. -/
def execFrel (source : Addr) (_argument : Half) (s : State) : Host.Outcome State Fault Refusal :=
  .next (receiveQuery source 7 answerFrel s)

/-- CLST (R141). The argument is not examined. -/
def execClst (source : Addr) (_argument : Half) (s : State) : Host.Outcome State Fault Refusal :=
  .next (receiveQuery source 8 answerClst s)

/-- UNKNOWN (R187): the action of the request kind, which for 0 and 9 to 255 is none. -/
def execUnknown (source : Addr) (kind : Byte) (argument : Half) (s : State) : Host.Outcome State Fault Refusal :=
  .next (receiveQuery source kind (actionOf kind.toNat argument.toNat) s)

/-- START_BIT: IDLE becomes COLLECTING; in WAIT_IDLE it is ignored (R154). -/
def execStartBit (s : State) : Host.Outcome State Fault Refusal :=
  .next
    (if s.bus.receiver = .idle ∧ s.bus.transmitter = .quiet then
       { s with bus := { s.bus with receiver := .collecting, remnant := false } }
     else s)

/-- A byte taken in COLLECTING from another station's frame is at fault (R154). -/
def collectingFails (s : State) : State :=
  if s.bus.receiver = .collecting ∧ s.bus.transmitter = .quiet then discardIncomplete .waitIdle s else s

/-- FRAMING_ERROR: a stop bit reads dominant (R154). -/
def execFramingError (s : State) : Host.Outcome State Fault Refusal := .next (collectingFails s)

/-- BAD_LENGTH: byte 2 is above 48 (R154). -/
def execBadLength (s : State) : Host.Outcome State Fault Refusal := .next (collectingFails s)

end Sys2Proof.Machine
end

