-- ==== Sys2Proof/Machine/Bus.lean ====
section
/-! DEFINITION. The bus interface's commands on the line and its timers: LINE_IDLE, CONTENTION_LOST, FRAME_SENT_WHOLE, FRAME_ABANDONED,
BUS_STUCK, ANNOUNCEMENT_TIMER_EXPIRY, LAST_HEARD_TIMER_EXPIRY, CLASH_TIMER_EXPIRY, and WARM_RESTART (spec/09; R184). -/

namespace Sys2Proof.Machine

/-! ### The line -/

/-- The receiver at an idle of the line (R154): an incomplete frame is discarded, and the receiver is IDLE. -/
def receiverIdles (s : State) : State :=
  match s.bus.receiver with
  | .collecting => discardIncomplete .idle s
  | .waitIdle | .idle => receiverTo .idle s
  | .off => s

/-- LINE_IDLE: 12 recessive bit times. BUS_STUCK becomes absent (R155), the receiver idles (R154), and a waiting frame begins (R163). The
line is not idle while the station sends, and not read while the interface is OFF. -/
def execLineIdle (s : State) : Host.Outcome State Fault Refusal :=
  .next
    (if s.bus.receiver ≠ .off ∧ s.bus.transmitter = .quiet then
       beginFrame (receiverIdles (if s.bus.stuck then setStuck false s else s))
     else s)

/-- BUS_STUCK: the line has been dominant for more than 2 ms (R155). -/
def execBusStuck (s : State) : Host.Outcome State Fault Refusal :=
  .next
    (if s.bus.receiver ≠ .off ∧ s.bus.stuck = false then setStuck true (setSticky .busStuck s) else s)

/-- Bit-by-bit contention over the n low bits, the highest first: at the first bit in which two bytes differ, the one that sends 1 reads the
dominant 0 and loses (R163, R164). -/
def losesBits (own rival : Nat) : Nat → Bool
  | 0 => false
  | n + 1 => if own.testBit n = rival.testBit n then losesBits own rival n else own.testBit n

/-- A contention byte loses against another (R163). -/
def losesContention (own rival : Byte) : Bool := losesBits own.toNat rival.toNat 8

/-- CONTENTION_LOST: the station, still contending, stops and listens; the frame keeps its slot (R164). -/
def execContentionLost (rival : Byte) (s : State) : Host.Outcome State Fault Refusal :=
  .next
    (match s.bus.transmitter, s.bus.onAir with
     | .contending, some t =>
       if losesContention ((t.frame[0]?).getD 0) rival then
         countContentionLost { s with bus := { s.bus with transmitter := .quiet, receiver := .collecting, onAir := none } }
       else s
     | _, _ => s)

/-! ### The outcome of a transmission (R165, R166) -/

/-- The slot is emptied when it still holds the frame sent (R162). -/
def emptySlot (t : Transmission) (s : State) : State :=
  if t.inSlot then
    match t.slot with
    | .announce => { s with bus := { s.bus with announceSlot := none } }
    | .intent => { s with bus := { s.bus with intentSlot := none } }
    | .reply => { s with bus := { s.bus with replySlots := s.bus.replySlots.drop 1 } }
  else s

/-- The transmission has ended: transmitter QUIET, a receiver state, and whether what follows on the line is the rest of an abandoned
frame. -/
def endTransmission (r : Receiver) (remnant : Bool) (t : Transmission) (s : State) : State :=
  emptySlot t { s with bus := { s.bus with transmitter := .quiet, receiver := r, remnant := remnant, onAir := none } }

/-- The outcome of a REPLY: one that answers an RSTW takes the pending warm restart (R184). -/
def replyOutcome (t : Transmission) (s : State) : State :=
  if s.startUp.restartPending ∧ byteAt t.frame 6 = 5 then warmStart s else s

/-- An own ANNOUNCE was sent whole: in JOINING, with flag JOINING, it counts toward ACTIVE (R181). -/
def announceSent (t : Transmission) (s : State) : State :=
  if s.startUp.lifecycle = .joining ∧ byteAt t.frame 6 / 64 = 0 then
    let s1 := { s with startUp := { s.startUp with ownCount := min 3 (s.startUp.ownCount + 1) } }
    if 3 ≤ s.startUp.ownCount + 1 then enterActive s1 else s1
  else s

/-- The report of a frame sent whole, by kind (R165). A report of an INTENT that its transition no longer owns is disregarded (R124,
R125). -/
def reportSent (t : Transmission) (s : State) : State :=
  match t.slot with
  | .intent => if t.inSlot then openWindow s else s
  | .announce => announceSent t s
  | .reply => replyOutcome t s

/-- An INTENT was abandoned: one backoff, then the window as if it had been sent (R119). -/
def intentAbandoned (s : State) : State :=
  match s.stagger.pending with
  | some p =>
    if p.resendUsed then openWindow s
    else
      { s with
        stagger :=
          { s.stagger with pending := some { p with resendUsed := true }, backoff := some (s.startUp.address * 10) } }
  | none => s

/-- The report of an abandoned frame, by kind (R166). -/
def reportAbandoned (t : Transmission) (s : State) : State :=
  match t.slot with
  | .intent => if t.inSlot then intentAbandoned s else s
  | .announce => s
  | .reply => replyOutcome t s

/-- A frame is sent whole (R165). -/
def frameSent (t : Transmission) (s : State) : State := reportSent t (endTransmission .waitIdle false t s)

/-- A frame is abandoned (R166). -/
def frameDropped (t : Transmission) (s : State) : State :=
  reportAbandoned t (endTransmission .collecting true t (countAbandoned s))

/-- The frame in transmission, while the transmitter is not QUIET. -/
def onLine (s : State) : Option Transmission := if s.bus.transmitter = .quiet then none else s.bus.onAir

/-- FRAME_SENT_WHOLE (R165). -/
def execFrameSentWhole (s : State) : Host.Outcome State Fault Refusal :=
  .next
    (match onLine s with
     | some t => frameSent t s
     | none => s)

/-- FRAME_ABANDONED (R166). -/
def execFrameAbandoned (s : State) : Host.Outcome State Fault Refusal :=
  .next
    (match onLine s with
     | some t => frameDropped t s
     | none => s)

/-- WARM_RESTART: the outcome of the REPLY that answers an RSTW, sent whole or abandoned, while a restart is pending (R184; log 13). -/
def execWarmRestart (sentWhole : Bool) (s : State) : Host.Outcome State Fault Refusal :=
  .next
    (match onLine s with
     | some t =>
       if t.slot = .reply ∧ s.startUp.restartPending ∧ byteAt t.frame 6 = 5 then
         if sentWhole then frameSent t s else frameDropped t s
       else s
     | none => s)

/-! ### Timers -/

/-- The lifecycle flag of an own ANNOUNCE (R160). -/
def flagNow : Lifecycle → PeerFlag
  | .active => .active
  | .isolated => .isolated
  | .config | .commission | .listen | .joining | .service => .joining

/-- The own observation: present when OUT_T and OUT_W are VALID (R51, R160). -/
def ownObservation (s : State) : Option Observation :=
  match s.reading .outT, s.reading .outW with
  | some t, some w => some { t := t, w := w.toNat }
  | _, _ => none

/-- The snapshot an ANNOUNCE carries (R160). -/
def snapshot (s : State) : Announcement where
  sequence := s.bus.sequence
  flag := flagNow s.startUp.lifecycle
  mode := s.engine.applied
  riserGroup := s.cfg.riserGroup
  plantGroup := s.cfg.plantGroup
  height := s.cfg.height
  period := s.cfg.announcePeriod
  observation := ownObservation s
  relief := { request := s.engine.reliefRequest, cap := s.engine.reliefCap, inUse := s.grant .relief }
  wfc := { request := s.engine.wfcRequest, cap := s.engine.wfcCap, inUse := s.grant .wfc }
  faults := (faultsPresent s).toByte

/-- An expiry of the running announcement timer: it restarts, the sequence counter rises, and a snapshot takes the slot (R160, R162). -/
def announceExpires (s : State) : State :=
  let s1 :=
    { s with
      bus :=
        { s.bus with
          announceTimer := some (secs s.cfg.announcePeriod), sequence := (s.bus.sequence + 1) % 256 } }
  placeAnnounce (buildFrame .announce s.startUp.address (announceBody (snapshot s1))) s1

/-- ANNOUNCEMENT_TIMER_EXPIRY (R160). -/
def execAnnouncementTimerExpiry (s : State) : Host.Outcome State Fault Refusal :=
  .next (if s.bus.announceTimer.isSome then announceExpires s else s)

/-- An expiry of the running last-heard timer: in LISTEN, or while nothing was ever heard, it restarts (R169); else JOINING and ACTIVE become
ISOLATED (R170). -/
def lastHeardExpires (s : State) : State :=
  if s.bus.heard ∧ (s.startUp.lifecycle = .joining ∨ s.startUp.lifecycle = .active) then enterIsolated s
  else { s with bus := { s.bus with lastHeard := some (secs (5 * s.cfg.announcePeriod)) } }

/-- LAST_HEARD_TIMER_EXPIRY (R169, R170). A frame taken first has restarted the timer, and the expiry does not happen (R171; log 5). -/
def execLastHeardTimerExpiry (s : State) : Host.Outcome State Fault Refusal :=
  .next (if s.bus.lastHeard = some 0 then lastHeardExpires s else s)

/-- ADDRESS_CLASH becomes absent, and both budgets are allocated, in ACTIVE with no own request (R100, R110, R168). -/
def clashEnds (s : State) : State :=
  let s := refreshAlarm { s with bus := { s.bus with clashTimer := none, clash := false } }
  allocateBoth (if s.startUp.lifecycle = .active then clearRequests s else s)

/-- CLASH_TIMER_EXPIRY. A clashing frame taken first has restarted the timer, and the fault stays (R168; log 5). -/
def execClashTimerExpiry (s : State) : Host.Outcome State Fault Refusal :=
  .next (if s.bus.clashTimer = some 0 then clashEnds s else s)

end Sys2Proof.Machine
end

