-- ==== Sys2Proof/Machine/Rotation.lean ====
section
/-! DEFINITION. The rotation counter's commands: ROT_IN_RISING_EDGE and GATE_WINDOW_EXPIRY (spec/03, R54 to R58), with the stall report
(R20, R140). -/

namespace Sys2Proof.Machine

/-- ROT_IN_RISING_EDGE: one more pulse while a gate window runs (R54). -/
def execRotInRisingEdge (s : State) : Host.Outcome State Fault Refusal :=
  .next
    (if s.rotation.gate.isSome then { s with rotation := { s.rotation with pulses := satInc 65535 s.rotation.pulses } }
     else s)

/-- The zero run after a completed window: a settling window leaves it, a judged one counts or clears it (R55). -/
def nextZeroRun (r : Rotation) : Nat :=
  if r.settling then r.zeroRun else if r.pulses = 0 then r.zeroRun + 1 else 0

/-- A stall is reported: the wheel is STALLED, WHEEL_STALL present with its sticky flag (R140), and a RECOVER or FROST is forced to BYPASS
(R20). -/
def declareStall (s : State) : State :=
  let t := setSticky .wheelStall (moveWheel .stalled s)
  if s.engine.applied.inPair then forcedChange t else t

/-- A gate window completes (R55). -/
def gateExpires (s : State) : State :=
  if s.rotation.settling = false ∧ 2 ≤ nextZeroRun s.rotation then declareStall s
  else
    { s with
      rotation :=
        { gate := some (secs s.cfg.gateWindow)
          pulses := 0
          settling := false
          zeroRun := nextZeroRun s.rotation
          rpm := measuredRpm s.rotation.pulses s.cfg.pulsesPerRev s.cfg.gateWindow } }

/-- GATE_WINDOW_EXPIRY (R55). -/
def execGateWindowExpiry (s : State) : Host.Outcome State Fault Refusal :=
  .next (if s.rotation.gate.isSome then gateExpires s else s)

end Sys2Proof.Machine
end

