-- ==== Sys2Proof/Machine/Reference.lean ====
section
/-! DEFINITION. The judgement of the own sensor (R67, R68) and HOLD_TIMER_EXPIRY (R65). -/

namespace Sys2Proof.Machine

/-- The runs and the own sensor's state after a judgement (R68). -/
def judged (disagrees : Bool) (r : Reconciler) : Reconciler :=
  match r.own, disagrees with
  | .included, true =>
    if r.disagreeRun + 1 ≥ 30 then { r with own := .excluded, disagreeRun := 0, agreeRun := 0 }
    else { r with disagreeRun := r.disagreeRun + 1, agreeRun := 0 }
  | .included, false => { r with agreeRun := satInc 30 r.agreeRun, disagreeRun := 0 }
  | .excluded, false =>
    if r.agreeRun + 1 ≥ 30 then { r with own := .included, disagreeRun := 0, agreeRun := 0 }
    else { r with agreeRun := r.agreeRun + 1, disagreeRun := 0 }
  | .excluded, true => { r with disagreeRun := satInc 30 r.disagreeRun, agreeRun := 0 }

/-- The judgement of the own sensor on an accepted OUT_T sample: made when OUT_T is VALID and at least two peer candidates stand
(R67). -/
def judgeOwnSensor (s : State) : State :=
  match s.reading .outT, lowerMedian ((peerCandidates s).map Prod.fst) with
  | some own, some med =>
    if 2 ≤ (peerCandidates s).length then
      { s with reconciler := judged (decide ((s.cfg.outlier : Int) < ((own - med).natAbs : Int))) s.reconciler }
    else s
  | _, _ => s

/-- The expiry of a running hold timer: INVALID, the REFERENCE fault and its sticky flag, and the report to the allocator (R65, R70). -/
def holdExpires (s : State) : State :=
  reportReference s.reconciler.reference
    (setSticky .reference
      (refreshAlarm { s with reconciler := { s.reconciler with reference := .invalid, count := 0, hold := none } }))

/-- HOLD_TIMER_EXPIRY (R65). -/
def execHoldTimerExpiry (s : State) : Host.Outcome State Fault Refusal :=
  .next (if s.reconciler.hold.isSome then holdExpires s else s)

end Sys2Proof.Machine
end

