-- ==== Sys2Proof/Machine/Scan.lean ====
section
/-! DEFINITION. The measurement scanner's commands: SCAN_TIMER_EXPIRY, SCAN_OUT_PULSE_END, SCAN_IN_RISING_EDGE and CONVERSION_COMPLETE
(spec/03, R38 to R53). -/

namespace Sys2Proof.Machine

/-- A strobe starts a scan, or is dropped and counted while one is in flight (R44, R45). A conversion takes 2 ms. -/
def strobe (s : State) : State :=
  match s.scanner.scan with
  | some _ => countOverrun s
  | none => { s with scanner := { s.scanner with scan := some { delivered := 0, left := 2 } } }

/-- A pulse of 1 ms begins on SCAN_OUT (R41). -/
def pulseScanOut (s : State) : State := { s with scanner := { s.scanner with scanOut := true, scanOutTimer := some 1 } }

/-- An expiry of the running scan timer: it restarts (R40), and strobes by the scan source (R41, R43). -/
def scanTimerExpires (scanIn : Bool) (s : State) : State :=
  let s := { s with scanner := { s.scanner with scanTimer := some s.cfg.scanPeriod } }
  match s.cfg.scanSource with
  | .internal => strobe s
  | .echo => strobe (pulseScanOut s)
  | .gated => if scanIn then strobe s else s
  | .external => s

/-- SCAN_TIMER_EXPIRY (R40). -/
def execScanTimerExpiry (scanIn : Bool) (s : State) : Host.Outcome State Fault Refusal :=
  .next (if s.scanner.scanTimer.isSome then scanTimerExpires scanIn s else s)

/-- SCAN_OUT_PULSE_END (R41). -/
def execScanOutPulseEnd (s : State) : Host.Outcome State Fault Refusal :=
  .next
    (if s.scanner.scanOutTimer.isSome then { s with scanner := { s.scanner with scanOut := false, scanOutTimer := none } }
     else s)

/-- SCAN_IN_RISING_EDGE: a strobe under EXTERNAL once the scanner is active, after CONFIG (R40, R42). -/
def execScanInRisingEdge (s : State) : Host.Outcome State Fault Refusal :=
  .next (if s.cfg.scanSource = .external ∧ s.startUp.lifecycle ≠ .config then strobe s else s)

/-- A sample enters a window: the sixteen most recent are held (R47). -/
def Window.enter (w : Window) (v : Int) : Window :=
  { w with samples := if w.samples.length < 16 then w.samples ++ [v] else w.samples.drop 1 ++ [v] }

/-- A window takes an accepted sample (R48). -/
def Window.accept (w : Window) (v : Int) : Window :=
  let e := { w.enter v with lastAccepted := some v }
  match w.state with
  | .absent => w
  | .filling | .failed => if 12 ≤ e.samples.length then { e with state := .valid, substituteRun := 0 } else e
  | .valid => { e with substituteRun := 0 }

/-- A window takes a rejected sample (R49). -/
def Window.reject (w : Window) : Window :=
  match w.state, w.lastAccepted with
  | .absent, _ => w
  | .filling, _ => emptyWindow .filling
  | .failed, _ => emptyWindow .failed
  | .valid, some v =>
    if 7 ≤ w.substituteRun then emptyWindow .failed else { w.enter v with substituteRun := w.substituteRun + 1 }
  | .valid, none => emptyWindow .failed

/-- A window is replaced: SENSOR, its sticky flag when it becomes present, and ALARM follow (R50). -/
def putWindow (q : Quantity) (w : Window) (s : State) : State :=
  let t := refreshAlarm { s with scanner := { s.scanner with windows := s.scanner.windows.set q w } }
  if t.scanner.windows.anyFailed && !s.scanner.windows.anyFailed then setSticky .sensor t else t

/-- The quantities whose samples and state changes are reported to the outdoor reconciler (R52). -/
def Quantity.isOutdoor : Quantity → Bool
  | .outT | .outW => true
  | .retT | .retW | .exhT | .heatDem | .coolDem | .bypFb | .oaFb => false

/-- An accepted sample is delivered (R48); one of OUT_T or OUT_W is reported, and one of OUT_T is judged first (R52, R62, R67). -/
def deliverAccepted (q : Quantity) (v : Int) (s : State) : State :=
  let t := putWindow q ((s.scanner.windows.get q).accept v) s
  match q with
  | .outT => recompute (judgeOwnSensor t)
  | .outW => recompute t
  | .retT | .retW | .exhT | .heatDem | .coolDem | .bypFb | .oaFb => t

/-- A rejected sample is delivered and counted (R49); a substitute and a change of state of OUT_T or OUT_W are reported (R52). -/
def deliverRejected (q : Quantity) (s : State) : State :=
  let t := putWindow q (s.scanner.windows.get q).reject (countReject s)
  if q.isOutdoor && decide ((s.scanner.windows.get q).state = .valid) then recompute t else t

/-- A code is delivered to the window of a quantity; an ABSENT quantity receives no samples (R38, R46). -/
def deliver (q : Quantity) (code : Nat) (s : State) : State :=
  if (s.scanner.windows.get q).state = .absent then s
  else
    match sampleOf q code with
    | some v => deliverAccepted q v s
    | none => deliverRejected q s

/-- The scan goes on to its next conversion, or ends after its last (R44). -/
def nextConversion (listLength delivered : Nat) : Option ScanInFlight :=
  if delivered + 1 < listLength then some { delivered := delivered + 1, left := 2 } else none

/-- A conversion of the scan in flight completes: its code goes to the quantity on its channel, or is discarded for NONE (R46). -/
def conversionCompletes (code : Nat) (f : ScanInFlight) (s : State) : State :=
  let s1 := { s with scanner := { s.scanner with scan := nextConversion s.cfg.scanList.length f.delivered } }
  match (s.cfg.scanList[f.delivered]?).bind s.cfg.quantityOn with
  | some q => deliver q code s1
  | none => s1

/-- CONVERSION_COMPLETE (R46). -/
def execConversionComplete (code : Code) (s : State) : Host.Outcome State Fault Refusal :=
  .next
    (match s.scanner.scan with
     | some f => conversionCompletes code.toNat f s
     | none => s)

end Sys2Proof.Machine
end

