-- ==== Sys2Proof/Machine/StartUp.lean ====
section
/-! DEFINITION. Start-up control's commands: COLD_START, CONFIG_END and LISTEN_TIMER_EXPIRY (spec/10, R174 to R180). -/

namespace Sys2Proof.Machine

/-- A cold start: CONFIG with every block at its start values, straps and record read, the defaults with CONFIG_DEFAULT for a record
not accepted (R174 to R178). The queue of commands, and the count of free values, are the environment's and the model's own. -/
def coldStart (hi lo : Ratio) (record : List Byte) (s : State) : State :=
  let t :=
    { State.reset with
      startUp :=
        { State.reset.startUp with
          address := strapAddress hi lo
          settings := loadSettings record
          configDefault := !recordAccepted record
          configTimer := some 50 }
      freeDraws := s.freeDraws
      pending := s.pending }
  if recordAccepted record then t else setSticky .configDefault t

/-- COLD_START (R174). -/
def execColdStart (hi lo : Ratio) (record : List Byte) (s : State) : Host.Outcome State Fault Refusal :=
  .next (coldStart hi lo record s)

/-- The loaded configuration is handed to every block, which take the start values that depend on it; the bus interface leaves OFF for
WAIT_IDLE (R53, R59, R94, R150, R173, R179), and the scan timer starts (R40). -/
def handConfiguration (s : State) : State :=
  startScanTimer
    { s with
      startUp := { s.startUp with configTimer := none }
      scanner := startScanner s.cfg
      rotation := idleRotation
      reconciler := startReconciler
      engine := startEngine s.cfg
      table := startTable
      allocator := startAllocator s.cfg
      stagger := idleStagger
      fan := startFan
      output := startOutput s.cfg.fmin
      bus := startBus .waitIdle }

/-- The first phase of the polarity test (R142). -/
def firstPhase (s : State) : PolarityTest :=
  { phase := .bypassLow, left := secs s.cfg.strokeTime, bypassA := none, outdoorA := none }

/-- CONFIG ends: SERVICE at address 0, else COMMISSION with the polarity test (R142, R179). -/
def configEnds (s : State) : State :=
  let t := handConfiguration s
  if s.startUp.address = 0 then setLifecycle .service t
  else drivePhase (firstPhase s) 0 s.cfg.fmin (setLifecycle .commission t)

/-- CONFIG_END: the 50 ms of CONFIG are over (R174, R179). -/
def execConfigEnd (s : State) : Host.Outcome State Fault Refusal :=
  .next (if s.startUp.configTimer.isSome ∧ s.startUp.lifecycle = .config then configEnds s else s)

/-- LISTEN ends: JOINING, with the decision and announcement timers, the end of the safe state, the idle timer of the STOPPED wheel and the
relief fan's activity (R2, R131, R149, R160, R180). -/
def listenEnds (s : State) : State :=
  let t :=
    setLifecycle .joining
      { s with
        startUp := { s.startUp with listenTimer := none, ownCount := 0 }
        engine := { s.engine with decisionTimer := some (secs s.cfg.decisionPeriod) }
        bus := { s.bus with announceTimer := some (s.startUp.address * 50) } }
  activateFan (driveValve (driveDampers { t with output := { t.output with idle := idleStart t } }))

/-- LISTEN_TIMER_EXPIRY (R180). -/
def execListenTimerExpiry (s : State) : Host.Outcome State Fault Refusal :=
  .next (if s.startUp.listenTimer.isSome ∧ s.startUp.lifecycle = .listen then listenEnds s else s)

end Sys2Proof.Machine
end

