-- ==== Sys2Proof/Machine/Dispatch.lean ====
section
/-! DEFINITION. Every command and its meaning, one arm per constructor of `Instr`. -/

namespace Sys2Proof.Machine

def exec (i : Instr) (s : State) : Host.Outcome State Fault Refusal :=
  match i with
  | .coldStart addrHi addrLo record => Sys2Proof.Machine.execColdStart addrHi addrLo record s
  | .configEnd => Sys2Proof.Machine.execConfigEnd s
  | .scanTimerExpiry scanIn => Sys2Proof.Machine.execScanTimerExpiry scanIn s
  | .scanOutPulseEnd => Sys2Proof.Machine.execScanOutPulseEnd s
  | .scanInRisingEdge => Sys2Proof.Machine.execScanInRisingEdge s
  | .conversionComplete code => Sys2Proof.Machine.execConversionComplete code s
  | .rotInRisingEdge => Sys2Proof.Machine.execRotInRisingEdge s
  | .gateWindowExpiry => Sys2Proof.Machine.execGateWindowExpiry s
  | .decision order => Sys2Proof.Machine.execDecision order s
  | .forceBypassTimerExpiry => Sys2Proof.Machine.execForceBypassTimerExpiry s
  | .holdTimerExpiry => Sys2Proof.Machine.execHoldTimerExpiry s
  | .silenceCoasting expiry order => Sys2Proof.Machine.execSilenceCoasting expiry order s
  | .silenceLost expiry => Sys2Proof.Machine.execSilenceLost expiry s
  | .silenceFreed expiry order => Sys2Proof.Machine.execSilenceFreed expiry order s
  | .announce frame order => Sys2Proof.Machine.execAnnounce frame order s
  | .intent frame => Sys2Proof.Machine.execIntent frame s
  | .replyReceived frame => Sys2Proof.Machine.execReplyReceived frame s
  | .rdst source argument => Sys2Proof.Machine.execRdst source argument s
  | .rdct source argument => Sys2Proof.Machine.execRdct source argument s
  | .rdpr source argument => Sys2Proof.Machine.execRdpr source argument s
  | .clrc source argument => Sys2Proof.Machine.execClrc source argument s
  | .rstw source argument => Sys2Proof.Machine.execRstw source argument s
  | .fbyp source argument => Sys2Proof.Machine.execFbyp source argument s
  | .frel source argument => Sys2Proof.Machine.execFrel source argument s
  | .clst source argument => Sys2Proof.Machine.execClst source argument s
  | .unknown source kind argument => Sys2Proof.Machine.execUnknown source kind argument s
  | .lineIdle => Sys2Proof.Machine.execLineIdle s
  | .contentionLost rival => Sys2Proof.Machine.execContentionLost rival s
  | .frameSentWhole => Sys2Proof.Machine.execFrameSentWhole s
  | .frameAbandoned => Sys2Proof.Machine.execFrameAbandoned s
  | .busStuck => Sys2Proof.Machine.execBusStuck s
  | .announcementTimerExpiry => Sys2Proof.Machine.execAnnouncementTimerExpiry s
  | .lastHeardTimerExpiry => Sys2Proof.Machine.execLastHeardTimerExpiry s
  | .clashTimerExpiry => Sys2Proof.Machine.execClashTimerExpiry s
  | .listenTimerExpiry => Sys2Proof.Machine.execListenTimerExpiry s
  | .intentWindowExpiry => Sys2Proof.Machine.execIntentWindowExpiry s
  | .slotTimerExpiry => Sys2Proof.Machine.execSlotTimerExpiry s
  | .backoffTimerExpiry => Sys2Proof.Machine.execBackoffTimerExpiry s
  | .offDelayTimerExpiry => Sys2Proof.Machine.execOffDelayTimerExpiry s
  | .idleTimerExpiry => Sys2Proof.Machine.execIdleTimerExpiry s
  | .purgeTimerExpiry => Sys2Proof.Machine.execPurgeTimerExpiry s
  | .settleTimerExpiry damper => Sys2Proof.Machine.execSettleTimerExpiry damper s
  | .polarityPhaseEnd => Sys2Proof.Machine.execPolarityPhaseEnd s
  | .warmRestart sentWhole => Sys2Proof.Machine.execWarmRestart sentWhole s
  | .queryForOtherStation frame => Sys2Proof.Machine.execQueryForOtherStation frame s
  | .framingError => Sys2Proof.Machine.execFramingError s
  | .badLength => Sys2Proof.Machine.execBadLength s
  | .startBit => Sys2Proof.Machine.execStartBit s

end Sys2Proof.Machine
end

