-- ==== Sys2Proof/Safety.lean ====
section
/-! DEFINITION. What holds of a station after every command: the invariants the statements speak of, each a decidable property of one
state. -/

namespace Sys2Proof.Machine

/-! ### The loaded configuration (R176, R177) -/

/-- A natural number between two bounds. -/
def within (lo hi n : Nat) : Bool := decide (lo ≤ n ∧ n ≤ hi)

/-- An integer between two bounds. -/
def withinInt (lo hi i : Int) : Bool := decide (lo ≤ i ∧ i ≤ hi)

/-- Every parameter lies in its range of R176. -/
def Settings.inRange (c : Settings) : Bool :=
  within 0 31 c.riserGroup && within 0 15 c.plantGroup && within 0 600 c.height && within 5 60 c.announcePeriod &&
    within 10 300 c.decisionPeriod && within 1 60 c.dwell && within 500 10000 c.scanPeriod &&
    within 1 10 c.scanList.length && c.scanList.all (within 0 9) && within 10 10 c.channelMap.length &&
    within 50 500 c.fmin && within 500 60000 c.qs && within 0 65535 c.lc && within 0 65535 c.brel &&
    within 0 65535 c.cnom && withinInt (-4024) 13774 c.hOn && withinInt (c.hOn + 100) 13874 c.hOff &&
    within 10 100 c.dTrec && within 0 50 c.recBand && within 0 1000 c.me && within 0 1000 c.mr && within 0 500 c.hb &&
    within 100 2000 c.sr && withinInt (-200) 200 c.tlow && within 10 100 c.minUseful && within 50 500 c.smin &&
    (within 0 0 c.purgeInterval || within 10 240 c.purgeInterval) && within 5 120 c.purgeDuration &&
    within 50 500 c.purgeSpeed && withinInt (-100) 50 c.tf && within 5 50 c.frostBand && within 0 600 c.offDelay &&
    within 1 30 c.staggerInterval && within 1 10 c.intentWindow && withinInt (-100) 0 c.lapse && within 0 600 c.reach &&
    within 10 200 c.outlier && within 1 60 c.holdLimit && within 5 60 c.gateWindow && within 0 8 c.pulsesPerRev &&
    within 30 240 c.strokeTime

/-! ### Counters, windows, table, intent list (R47, R74, R121, R173) -/

/-- Every device counter is at most 65535 (spec/00_scope.md, Counters). -/
abbrev countersInRange (s : State) : Prop :=
  s.counters.crcErrors ≤ 65535 ∧ s.counters.framesAbandoned ≤ 65535 ∧ s.counters.contentionsLost ≤ 65535 ∧
  s.counters.seqGaps ≤ 65535 ∧ s.counters.tableRefusals ≤ 65535 ∧ s.counters.queriesDropped ≤ 65535 ∧
  s.counters.sampleRejects ≤ 65535 ∧ s.counters.scanOverruns ≤ 65535

/-- A window holds what its state says: VALID 12 to 16 samples and a substitute run below 8, FILLING and FAILED at most 11 and no run,
ABSENT none (R47 to R49). -/
abbrev Window.sound (w : Window) : Prop :=
  (w.state = .absent → w.samples = []) ∧
  (w.state = .filling ∨ w.state = .failed → w.samples.length ≤ 11 ∧ w.substituteRun = 0) ∧
  (w.state = .valid → 12 ≤ w.samples.length ∧ w.samples.length ≤ 16 ∧ w.substituteRun ≤ 7 ∧ w.lastAccepted.isSome)

/-- All nine windows are sound. -/
abbrev windowsSound (s : State) : Prop := ∀ q ∈ Quantity.all, (s.scanner.windows.get q).sound

/-- The table holds at most 32 records, in strictly ascending order of address, each from 1 to 63 and none the own address (R74); and only
address 0 is in SERVICE (R179). -/
abbrev tableSound (s : State) : Prop :=
  s.table.records.length ≤ 32 ∧ s.table.records.Pairwise (fun a b => a.address < b.address) ∧
  (∀ r ∈ s.table.records, 1 ≤ r.address ∧ r.address ≤ 63 ∧ r.address ≠ s.startUp.address) ∧
  (s.startUp.lifecycle = .service → s.startUp.address = 0)

/-- The intent list holds at most 16 keys, in strictly ascending order, at most one of an address (R121). -/
abbrev intentsSound (s : State) : Prop :=
  s.stagger.intents.length ≤ 16 ∧ s.stagger.intents.Pairwise (fun a b => a.lower b = true ∧ a.address ≠ b.address)

/-! ### Grants and the economizer (R19, R107) -/

/-- A grant in use is at most the own share, and 0 unless the station is ACTIVE without ADDRESS_CLASH (R107). -/
abbrev grantsSound (s : State) : Prop :=
  ∀ b : Budget, (b = .relief ∨ b = .wfc) →
    s.grant b ≤ (s.allocator.get b).ownShare ∧ (eligible s = false → s.grant b = 0)

/-- The applied mode is ECONOMIZE only while the hold condition holds (R19). -/
abbrev economizeHeld (s : State) : Prop :=
  s.engine.applied = .economize → s.startUp.lifecycle = .active ∧ minShare s ≤ s.grant .relief

/-! ### Outputs (R133 to R136) -/

/-- In service the dampers and the valve carry the commands of R133 to R135. -/
abbrev commandsFollow (s : State) : Prop :=
  s.startUp.lifecycle.inService = true →
    s.output.bypass.command = bypassCommand s ∧ s.output.outdoor.command = outdoorCommand s ∧
    s.output.wfcPos = valveCommand s.cfg.lc (s.grant .wfc)

/-- The wheel's outputs and timers are those of its state (section 8.2, R136), and it is RUNNING exactly in RECOVER and FROST (R133). -/
abbrev wheelSound (s : State) : Prop :=
  (s.output.wheelRun = true ↔ s.output.wheel = .running ∨ s.output.wheel = .purging) ∧
  s.output.wheelSpd = wheelSpeed s s.output.wheel ∧
  (s.output.purge.isSome = true ↔ s.output.wheel = .purging) ∧
  (s.output.idle.isSome = true → s.output.wheel = .stopped) ∧
  (s.rotation.gate.isSome = true → s.output.wheel = .running) ∧
  (s.engine.applied.inPair = true ↔ s.output.wheel = .running)

/-- Outside JOINING, ACTIVE and ISOLATED the wheel and the valve are held in the safe state and BYPASS is applied (R24, R148); the dampers stand
at their safe-state positions in LISTEN and SERVICE, at the default ones in CONFIG (R150), and where the phase of the polarity test puts
them in COMMISSION, the one state that has a test (R142). -/
abbrev safeHeld (s : State) : Prop :=
  (s.startUp.lifecycle.inService = false →
    s.output.wheel = .stopped ∧ s.output.idle = none ∧ s.output.wfcPos = 0 ∧ s.engine.applied = .bypass) ∧
  (s.startUp.lifecycle = .listen ∨ s.startUp.lifecycle = .service →
    s.output.bypass.command = 1000 ∧ s.output.outdoor.command = s.cfg.fmin) ∧
  (s.startUp.lifecycle = .config → s.output.bypass.command = 1000 ∧ s.output.outdoor.command = 200) ∧
  (s.output.test.isSome = true ↔ s.startUp.lifecycle = .commission) ∧
  (∀ t ∈ s.output.test,
    s.output.bypass.command = (if t.phase = .bypassLow then 0 else 1000) ∧
    s.output.outdoor.command =
      (if t.phase = .outdoorLow then 0 else if t.phase = .outdoorHigh then 1000 else s.cfg.fmin))

/-! ### Relief fan (R127, R128, R130) -/

/-- Without the owner setting the fan is OFF and RELIEF_RUN off (R127); suspension is an owner's in service (R130); an owner active and not
suspended is ON exactly while the fan condition holds, with RELIEF_RUN off exactly in OFF (R128). -/
abbrev fanSound (s : State) : Prop :=
  (s.cfg.fanOwner = false → s.fan.state = .off ∧ s.fan.reliefRun = false ∧ s.fan.suspended = false) ∧
  (fanActive s = true → s.fan.suspended = suspensionDue s) ∧
  (fanActive s = true ∧ s.fan.suspended = false →
    (s.fan.state = .on ↔ fanCondition s = true) ∧ (s.fan.reliefRun = true ↔ s.fan.state ≠ .off))

/-! ### Bus interface and timers (R2, R116, R160, R162, R163, R172) -/

/-- At most two REPLY frames wait (R162); a frame is in transmission exactly while the transmitter is not QUIET, and the receiver then follows
it. -/
abbrev slotsSound (s : State) : Prop :=
  s.bus.replySlots.length ≤ 2 ∧ (s.bus.onAir.isSome = true ↔ s.bus.transmitter ≠ .quiet) ∧
  (s.bus.transmitter ≠ .quiet → s.bus.receiver = .collecting)

/-- The decision and announcement timers run exactly in JOINING, ACTIVE and ISOLATED (R2, R160), and a transition is pending only there
(R116). -/
abbrev serviceTimers (s : State) : Prop :=
  (s.engine.decisionTimer.isSome = s.startUp.lifecycle.inService) ∧
  (s.bus.announceTimer.isSome = s.startUp.lifecycle.inService) ∧
  (s.stagger.pending.isSome = true → s.startUp.lifecycle.inService = true)

/-- A slot holds a frame only in a state whose row of R172 allows it to be sent. -/
abbrev slotsAllowed (s : State) : Prop :=
  (s.startUp.lifecycle.inService = false → s.bus.announceSlot = none ∧ s.bus.intentSlot = none) ∧
  (s.startUp.lifecycle.answers = false → s.bus.replySlots = [])

/-- No frame that may be sent is left waiting on an idle line that is not stuck, while the transmitter is QUIET (R163). -/
abbrev idleLineServed (s : State) : Prop :=
  s.bus.receiver = .idle → s.bus.transmitter = .quiet → s.bus.stuck = false → offered s = none

/-! ### Allocations (R95, R106) -/

/-- The sum of the shares of a participant list. -/
def sumShares : List Participant → Nat
  | [] => 0
  | p :: ps => p.share.getD 0 + sumShares ps

/-- The recorded allocation of each budget is the one its inputs give as they stand: every change of an input is a trigger of R100. The own
share is that of the own entry (R94). -/
abbrev allocationsCurrent (s : State) : Prop :=
  ∀ b : Budget, (b = .relief ∨ b = .wfc) →
    (s.allocator.get b).participants = divide (s.allocator.get b).value (participantsOf b s) ∧
    (s.allocator.get b).ownShare = shareOf s.startUp.address (s.allocator.get b).participants

/-- After CONFIG the caps are those of the configuration (R1, R9). -/
abbrev capsFollow (s : State) : Prop :=
  s.startUp.lifecycle ≠ .config →
    s.engine.reliefCap = reliefCapOf s.cfg.fmin s.cfg.qs ∧ s.engine.wfcCap = s.cfg.lc

/-- After CONFIG the RELIEF budget is Brel and the WFC budget is derated from the reference (R95). -/
abbrev budgetsFollow (s : State) : Prop :=
  s.startUp.lifecycle ≠ .config →
    s.allocator.relief.value = s.cfg.brel ∧
    s.allocator.wfc.value =
      wfcBudget s.cfg.cnom s.cfg.hOn s.cfg.hOff (s.reconciler.reference.point.map OutdoorPoint.h)

/-! ### The outdoor reference (section 4.3) -/

/-- Candidate count and hold timer are those of the state of the reference, and Ho is the enthalpy of To and Wo (reference states at a glance,
R63); the runs are 0 to 30 (R68). -/
abbrev referenceSound (s : State) : Prop :=
  (match s.reconciler.reference with
   | .fresh p => 1 ≤ s.reconciler.count ∧ s.reconciler.count ≤ 33 ∧ s.reconciler.hold = none ∧ p.h = enthalpy p.t p.w
   | .held p => s.reconciler.count = 0 ∧ s.reconciler.hold.isSome = true ∧ p.h = enthalpy p.t p.w
   | .invalid => s.reconciler.count = 0 ∧ s.reconciler.hold = none) ∧
  s.reconciler.disagreeRun ≤ 30 ∧ s.reconciler.agreeRun ≤ 30

/-- The reference after a recomputation, by the candidates that stand (R63, R64): `before` is the state before the event, `after` the state after
it. -/
abbrev referenceFollows (before after : State) : Prop :=
  (candidates after ≠ [] →
    (∃ p, after.reconciler.reference = .fresh p ∧
      lowerMedian ((candidates after).map Prod.fst) = some p.t ∧
      lowerMedian ((candidates after).map Prod.snd) = some p.w ∧ p.h = enthalpy p.t p.w) ∧
    after.reconciler.count = (candidates after).length ∧ after.reconciler.hold = none) ∧
  (candidates after = [] →
    after.reconciler.count = 0 ∧
    (match before.reconciler.reference with
     | .fresh p => after.reconciler.reference = .held p ∧ after.reconciler.hold = some (mins before.cfg.holdLimit)
     | .held p => after.reconciler.reference = .held p ∧ after.reconciler.hold = before.reconciler.hold
     | .invalid => after.reconciler.reference = .invalid ∧ after.reconciler.hold = before.reconciler.hold))

/-! ### Ranges of values (R14, R28, R136) -/

/-- Every sample and last accepted value lies in the span of its quantity (R28, R47). -/
abbrev samplesInSpan (s : State) : Prop :=
  ∀ q ∈ Quantity.all,
    (∀ v ∈ (s.scanner.windows.get q).samples, (span q).1 ≤ v ∧ v ≤ (span q).2) ∧
    (∀ v ∈ (s.scanner.windows.get q).lastAccepted, (span q).1 ≤ v ∧ v ≤ (span q).2)

/-- After CONFIG base speed and speed target lie between Smin and 1000 (R1, R14). -/
abbrev speedsInRange (s : State) : Prop :=
  s.startUp.lifecycle ≠ .config →
    s.cfg.smin ≤ s.engine.baseSpeed ∧ s.engine.baseSpeed ≤ 1000 ∧
    s.cfg.smin ≤ s.engine.speedTarget ∧ s.engine.speedTarget ≤ 1000

/-! ### Announcements (R156) -/

/-- A claim whose values fit their two-byte fields. -/
def Claim.fits (c : Claim) : Bool := within 0 65535 c.request && within 0 65535 c.cap && within 0 65535 c.inUse

/-- An announcement every value of which fits its field of R156. -/
def Announcement.fits (a : Announcement) : Bool :=
  within 0 255 a.sequence && within 0 255 a.riserGroup && within 0 255 a.plantGroup && within 0 65535 a.height &&
    within 0 255 a.period && a.observation.all (fun o => withinInt (-32768) 32767 o.t && within 0 65535 o.w) &&
    a.relief.fits && a.wfc.fits

/-- ALARM is as R190 gives it. -/
abbrev alarmFollows (s : State) : Prop := s.responder.alarm = alarmDue s

end Sys2Proof.Machine
end

