-- ==== Sys2Proof/Certificates/Slice0/Obligations.lean ====
section
/-! DEFINITION. The statements for the provers. Each is about every state and every operand it names, reached or not, unless it says otherwise; the
premises that are invariants are statements of their own. -/

open Sys2Proof Sys2Proof.Machine

/-! ### The machine -/

/-- A step runs the command at the front of the queue on the state with the queue's rest. On an empty queue a millisecond passes: every running timer
has one less, every silence and the idle timer one more, and nothing else moves but a contention that is over (the model's choice, log 3). -/
def Obligations.StepRunsTheFrontCommand : Prop :=
  (∀ (c : Instr) (cs : List Instr) (s : State), s.pending = c :: cs → step s = exec c { s with pending := cs }) ∧
  (∀ s : State, s.pending = [] → ∃ t, step s = .next t ∧
    t.startUp = { s.startUp with
      configTimer := s.startUp.configTimer.map (· - 1), listenTimer := s.startUp.listenTimer.map (· - 1) } ∧
    t.scanner = { s.scanner with
      scanTimer := s.scanner.scanTimer.map (· - 1), scanOutTimer := s.scanner.scanOutTimer.map (· - 1),
      scan := s.scanner.scan.map fun f => { f with left := f.left - 1 } } ∧
    t.rotation = { s.rotation with gate := s.rotation.gate.map (· - 1) } ∧
    t.reconciler = { s.reconciler with hold := s.reconciler.hold.map (· - 1) } ∧
    t.engine = { s.engine with
      forceBypass := s.engine.forceBypass.map (· - 1), decisionTimer := s.engine.decisionTimer.map (· - 1) } ∧
    t.table = { s.table with records := s.table.records.map fun r => { r with silence := r.silence + 1 } } ∧
    t.stagger = { s.stagger with
      windowTimer := s.stagger.windowTimer.map (· - 1), slotTimer := s.stagger.slotTimer.map (· - 1),
      backoff := s.stagger.backoff.map (· - 1) } ∧
    t.fan = { s.fan with
      offDelay :=
        if s.cfg.fanOwner = true ∧ s.startUp.lifecycle.inService = true ∧ s.fan.suspended = false then
          s.fan.offDelay.map (· - 1)
        else s.fan.offDelay } ∧
    t.output = { s.output with
      idle := s.output.idle.map fun n => min (mins s.cfg.purgeInterval) (n + 1)
      purge := s.output.purge.map (· - 1)
      bypass := { s.output.bypass with settle := s.output.bypass.settle.map (· - 1) }
      outdoor := { s.output.outdoor with settle := s.output.outdoor.settle.map (· - 1) }
      test := s.output.test.map fun p => { p with left := p.left - 1 } } ∧
    t.bus = { s.bus with
      transmitter := if s.bus.transmitter = .contending then .sending else s.bus.transmitter
      announceTimer := s.bus.announceTimer.map (· - 1), lastHeard := s.bus.lastHeard.map (· - 1),
      clashTimer := s.bus.clashTimer.map (· - 1) } ∧
    t.allocator = s.allocator ∧ t.responder = s.responder ∧ t.counters = s.counters ∧
    t.freeDraws = s.freeDraws ∧ t.pending = [])

/-- Every command, on every operand and in every state, answers a next state and leaves the queue of waiting commands as it was. That COLD_START and a
warm restart leave it too is the model's choice (log 20). -/
def Obligations.CommandsCompleteAndKeepTheQueue : Prop :=
  ∀ (c : Instr) (s : State), ∃ t, exec c s = .next t ∧ t.pending = s.pending

/-- No command but COLD_START changes a parameter of the configuration, the strap address or CONFIG_DEFAULT (R178, R179). -/
def Obligations.ConfigurationSettledUntilColdStart : Prop :=
  ∀ (c : Instr) (s t : State), (∀ hi lo record, c ≠ .coldStart hi lo record) → exec c s = .next t →
    t.startUp.settings = s.startUp.settings ∧ t.startUp.address = s.startUp.address ∧
    t.startUp.configDefault = s.startUp.configDefault

/-- Only COLD_START and CLRC lower a device counter or clear a sticky flag (R173, R187, R189). A QUERY_FOR_OTHER_STATION is left out: its bytes may
spell a CLRC to this station. -/
def Obligations.CountersAndStickyFlagsKept : Prop :=
  ∀ (c : Instr) (s t : State), c.wf = true → (∀ hi lo record, c ≠ .coldStart hi lo record) →
    (∀ source argument, c ≠ .clrc source argument) → (∀ f, c ≠ .queryForOtherStation f) →
    countersInRange s → exec c s = .next t →
    (s.counters.crcErrors ≤ t.counters.crcErrors ∧ s.counters.framesAbandoned ≤ t.counters.framesAbandoned ∧
     s.counters.contentionsLost ≤ t.counters.contentionsLost ∧ s.counters.seqGaps ≤ t.counters.seqGaps ∧
     s.counters.tableRefusals ≤ t.counters.tableRefusals ∧ s.counters.queriesDropped ≤ t.counters.queriesDropped ∧
     s.counters.sampleRejects ≤ t.counters.sampleRejects ∧ s.counters.scanOverruns ≤ t.counters.scanOverruns) ∧
    (s.responder.sticky.sensor = true → t.responder.sticky.sensor = true) ∧
    (s.responder.sticky.reference = true → t.responder.sticky.reference = true) ∧
    (s.responder.sticky.wheelStall = true → t.responder.sticky.wheelStall = true) ∧
    (s.responder.sticky.damper = true → t.responder.sticky.damper = true) ∧
    (s.responder.sticky.addressClash = true → t.responder.sticky.addressClash = true) ∧
    (s.responder.sticky.configDefault = true → t.responder.sticky.configDefault = true) ∧
    (s.responder.sticky.busStuck = true → t.responder.sticky.busStuck = true) ∧
    (s.responder.sticky.isolated = true → t.responder.sticky.isolated = true)

/-! ### Arithmetic (spec/02) -/

/-- The classes of a code, and the value of an accepted one as the floor of R28, within the span of its quantity (R27, R28). -/
def Obligations.ScalingFollowsTheBands : Prop :=
  ∀ (q : Quantity) (code : Code), ∃ lo hi : Int,
    (q = .outT ∨ q = .retT ∨ q = .exhT → lo = -400 ∧ hi = 600) ∧ (q = .outW ∨ q = .retW → lo = 0 ∧ hi = 3000) ∧
    (q = .heatDem ∨ q = .coolDem ∨ q = .bypFb ∨ q = .oaFb → lo = 0 ∧ hi = 1000) ∧
    (code.toNat ≤ 327 → sampleOf q code.toNat = none) ∧
    (328 ≤ code.toNat → code.toNat ≤ 409 → sampleOf q code.toNat = some lo) ∧
    (410 ≤ code.toNat → code.toNat ≤ 3686 → ∃ v, sampleOf q code.toNat = some v ∧ lo ≤ v ∧ v ≤ hi ∧
      (v - lo) * 3276 ≤ ((code.toNat : Int) - 410) * (hi - lo) ∧
      ((code.toNat : Int) - 410) * (hi - lo) < (v - lo + 1) * 3276) ∧
    (code.toNat = 410 → sampleOf q code.toNat = some lo) ∧ (code.toNat = 3686 → sampleOf q code.toNat = some hi) ∧
    (3687 ≤ code.toNat → code.toNat ≤ 3768 → sampleOf q code.toNat = some hi) ∧
    (3769 ≤ code.toNat → sampleOf q code.toNat = none)

/-- The enthalpy is N / 1,000,000 of the clamped inputs, rounded half away from zero, and lies between −4024, at T −400 and W 0, and 13874, at T 600
and W 3000 (R29). The height correction is that of the clamped heights, rounded half away from zero, from −60 to 60, of the sign R30 gives, and the
corrected temperature is clamped (R30). -/
def Obligations.EnthalpyAndHeightCorrectionRound : Prop :=
  (∀ T W : Int, ∃ t w n : Int,
    t = max (-400) (min 600 T) ∧ w = max 0 (min 3000 W) ∧ n = 10060000 * t + 2501000 * w + 186 * w * t ∧
    2 * (n - 1000000 * enthalpy T W).natAbs ≤ 1000000 ∧
    (2 * (n - 1000000 * enthalpy T W).natAbs = 1000000 → n.natAbs < (1000000 * enthalpy T W).natAbs) ∧
    -4024 ≤ enthalpy T W ∧ enthalpy T W ≤ 13874) ∧
  enthalpy (-400) 0 = -4024 ∧ enthalpy 600 3000 = 13874 ∧
  (∀ (lapse : Int) (h hp : Nat) (tp : Int), -100 ≤ lapse → lapse ≤ 0 → ∃ n d : Int,
    n = lapse * (((min 600 h : Nat) : Int) - ((min 600 hp : Nat) : Int)) ∧
    2 * (n - 1000 * d).natAbs ≤ 1000 ∧ (2 * (n - 1000 * d).natAbs = 1000 → n.natAbs < (1000 * d).natAbs) ∧
    -60 ≤ d ∧ d ≤ 60 ∧ (hp ≤ h → d ≤ 0) ∧ (h ≤ hp → 0 ≤ d) ∧ (lapse = 0 → d = 0) ∧
    correctedTemp lapse h hp tp = max (-400) (min 600 (tp + d)))

/-- The median of a list that is not empty is one of its values: at most floor((n − 1) / 2) values lie below it, and more than that lie at or below
it. For one value it is that value, for two the lower. The empty list has none (R31). -/
def Obligations.MedianIsTheLowerMiddleValue : Prop :=
  (∀ l : List Int, l ≠ [] → ∃ m, lowerMedian l = some m ∧ m ∈ l ∧
    l.countP (fun x => decide (x < m)) ≤ (l.length - 1) / 2 ∧
    (l.length - 1) / 2 < l.countP (fun x => decide (x ≤ m))) ∧
  (∀ x : Int, lowerMedian [x] = some x) ∧ (∀ x y : Int, lowerMedian [x, y] = some (min x y)) ∧
  lowerMedian [] = none

/-- The WFC budget by the table of R32: from 0 to Cnom, the floor of the straight line between H_on and H_off, never rising as Ho rises; a HELD
reference gives its held Ho, as a FRESH one gives its own. -/
def Obligations.WfcBudgetDerates : Prop :=
  (∀ p : OutdoorPoint, (Reference.fresh p).point = some p ∧ (Reference.held p).point = some p) ∧
  Reference.invalid.point = none ∧
  ∀ (cnom : Nat) (hOn hOff : Int), hOn + 100 ≤ hOff →
    wfcBudget cnom hOn hOff none = 0 ∧
    (∀ ho, ho ≤ hOn → wfcBudget cnom hOn hOff (some ho) = cnom) ∧
    (∀ ho, hOff ≤ ho → wfcBudget cnom hOn hOff (some ho) = 0) ∧
    (∀ ho, hOn < ho → ho < hOff → ∃ b : Nat, wfcBudget cnom hOn hOff (some ho) = b ∧
      (b : Int) * (hOff - hOn) ≤ cnom * (hOff - ho) ∧ cnom * (hOff - ho) < ((b : Int) + 1) * (hOff - hOn)) ∧
    (∀ ho, wfcBudget cnom hOn hOff (some ho) ≤ cnom) ∧
    (∀ ho ho', ho ≤ ho' → wfcBudget cnom hOn hOff (some ho') ≤ wfcBudget cnom hOn hOff (some ho)) ∧
    (cnom = 0 → ∀ ho, wfcBudget cnom hOn hOff ho = 0)

/-- The economizer quantities, with the bounds R33 gives. The granted fraction is that of R34's formula, which the model follows against its sentence
on a full grant (the model's reading, log 24): it lies from Fmin to Fw, is Fmin at grant 0, and never falls as the grant rises. -/
def Obligations.EconomizerQuantitiesKeepTheirBounds : Prop :=
  ∀ fmin qs dc : Nat, 50 ≤ fmin → fmin ≤ 500 → 500 ≤ qs → qs ≤ 60000 → dc ≤ 1000 → ∃ fw request cap : Nat,
    fw = fmin + (1000 - fmin) * dc / 1000 ∧ wantedFraction fmin dc = fw ∧
    request = (fw - fmin) * qs / 1000 ∧ reliefRequestOf fmin qs fw = request ∧
    cap = (1000 - fmin) * qs / 1000 ∧ reliefCapOf fmin qs = cap ∧
    fmin ≤ fw ∧ fw ≤ 1000 ∧ request ≤ cap ∧ 250 ≤ cap ∧ cap ≤ 57000 ∧
    (dc = 0 → fw = fmin ∧ request = 0) ∧ (dc = 1000 → fw = 1000 ∧ request = cap) ∧
    (∀ g : Nat, grantedFraction fw fmin qs g = min fw (fmin + g * 1000 / qs) ∧
      fmin ≤ grantedFraction fw fmin qs g ∧ grantedFraction fw fmin qs g ≤ fw ∧
      (g = 0 → grantedFraction fw fmin qs g = fmin)) ∧
    (∀ g g' : Nat, g ≤ g' → grantedFraction fw fmin qs g ≤ grantedFraction fw fmin qs g')

/-- The WFC request and valve command (R35), the heating target (R36) and the cooling recovery target (R37), with their bounds. -/
def Obligations.ValveAndSpeedTargetsKeepTheirBounds : Prop :=
  (∀ lc dc : Nat, dc ≤ 1000 → wfcRequestOf lc dc = dc * lc / 1000 ∧ wfcRequestOf lc dc ≤ lc ∧ wfcRequestOf lc 1000 = lc) ∧
  (∀ g : Nat, valveCommand 0 g = 0) ∧
  (∀ lc g : Nat, 0 < lc → valveCommand lc g = min 1000 (g * 1000 / lc) ∧ (lc ≤ g → valveCommand lc g = 1000)) ∧
  (∀ smin dh : Nat, smin ≤ 1000 → dh ≤ 1000 →
    smin ≤ heatingTarget smin dh ∧ heatingTarget smin dh ≤ 1000 ∧ (dh ≤ smin → heatingTarget smin dh = smin) ∧
    (smin ≤ dh → heatingTarget smin dh = dh)) ∧
  (∀ smin sr : Nat, ∀ x : Int, smin ≤ 1000 → 100 ≤ sr →
    smin ≤ coolingTarget smin sr x ∧ coolingTarget smin sr x ≤ 1000 ∧ (x ≤ 0 → coolingTarget smin sr x = smin) ∧
    (sr ≤ x → coolingTarget smin sr x = 1000) ∧
    (0 ≤ x → x ≤ sr → (((coolingTarget smin sr x : Nat) : Int) - smin) * sr ≤ (1000 - smin) * x ∧
      (1000 - smin) * x < (((coolingTarget smin sr x : Nat) : Int) - smin + 1) * sr)) ∧
  (∀ smin sr : Nat, ∀ x y : Int, smin ≤ 1000 → x ≤ y → coolingTarget smin sr x ≤ coolingTarget smin sr y)

/-! ### The division of a budget (spec/06, section 6.4) -/

/-- A division keeps the entries and gives each a share of at most its request. The shares are the requests when these sum to at most the budget, and
else sum to exactly the budget (R103, R106). -/
def Obligations.DivisionStaysWithinTheBudget : Prop :=
  ∀ (budget : Nat) (ps : List Participant), (∀ p ∈ ps, p.share = none) →
    (divide budget ps).map Participant.address = ps.map Participant.address ∧
    (divide budget ps).map Participant.request = ps.map Participant.request ∧
    (∀ p ∈ divide budget ps, ∃ x, p.share = some x ∧ x ≤ p.request) ∧
    (sumRequests ps ≤ budget → ∀ p ∈ divide budget ps, p.share = some p.request) ∧
    (budget < sumRequests ps → sumShares (divide budget ps) = budget) ∧
    sumShares (divide budget ps) ≤ budget

/-- The division is max-min fair in whole units: no share exceeds that of a participant left short of its request by more than one unit, and of two
left short the one earlier in the list has the same share or one unit more. -/
def Obligations.DivisionIsMaxMinFair : Prop :=
  ∀ (budget : Nat) (ps : List Participant), (∀ p ∈ ps, p.share = none) →
    (∀ p ∈ divide budget ps, ∀ q ∈ divide budget ps,
      q.share.getD 0 < q.request → p.share.getD 0 ≤ q.share.getD 0 + 1) ∧
    (divide budget ps).Pairwise fun p q =>
      p.share.getD 0 < p.request → q.share.getD 0 < q.request → q.share.getD 0 ≤ p.share.getD 0

/-! ### Bytes (spec/09 and spec/10) -/

/-- A frame built with a body that fits its kind is whole and valid, of that kind, from that source, with that body; and an ANNOUNCE whose values fit
their fields is read back as it was built (R156 to R158). The CRC starts at 0xFFFF, takes each byte into the high eight bits and then makes the eight
steps of R157, and is 0x29B1 over the characters 1 to 9. -/
def Obligations.BuiltFramesAreValidAndReadBack : Prop :=
  crc16 [] = 0xFFFF#16 ∧
  (∀ (bytes : List Byte) (b : Byte), crc16 (bytes ++ [b]) =
    (List.range 8).foldl (fun (r : Half) (_ : Nat) => if r.msb = true then (r <<< 1) ^^^ 0x1021#16 else r <<< 1)
      (crc16 bytes ^^^ (b.setWidth 16 <<< 8))) ∧
  crc16 [0x31, 0x32, 0x33, 0x34, 0x35, 0x36, 0x37, 0x38, 0x39] = 0x29B1#16 ∧
  (∀ (k : FrameKind) (source : Nat) (body : List Byte), source < 64 → lengthFits k body.length = true →
    (k = .announce → ((body[1]?).getD 0).toNat / 64 ≠ 3) →
    (k = .intent → ((body[0]?).getD 0).toNat = 1 ∨ ((body[0]?).getD 0).toNat = 2) →
    frameWhole (buildFrame k source body) = true ∧ frameValid (buildFrame k source body) = true ∧
    frameKind (buildFrame k source body) = some k ∧ frameSource (buildFrame k source body) = source ∧
    (buildFrame k source body).drop 5 = body) ∧
  (∀ (a : Announcement) (source : Nat), source < 64 → a.fits = true →
    (announceBody a).length = 24 ∧ frameValid (buildFrame .announce source (announceBody a)) = true ∧
    announcementOf (buildFrame .announce source (announceBody a)) = a)

/-- The bit-by-bit contention is lost exactly to a lower contention byte: a lower class wins, and in one class the lower address (R163). A
CONTENTION_LOST of a contending station to a lower byte leaves the frame in its slot and listens to the winner; to a byte that does not beat it, it is
no loss (R164). -/
def Obligations.ContentionIsLostToALowerByte : Prop :=
  (∀ own rival : Byte, losesContention own rival = true ↔ rival.toNat < own.toNat) ∧
  (∀ (k k' : FrameKind) (a a' : Nat), a < 64 → a' < 64 →
    (losesContention (contentionByte k a) (contentionByte k' a') = true ↔
      k'.frameClass < k.frameClass ∨ (k'.frameClass = k.frameClass ∧ a' < a))) ∧
  (∀ (rival : Byte) (x : Transmission) (s : State), s.bus.transmitter = .contending → s.bus.onAir = some x →
    rival.toNat < ((x.frame[0]?).getD 0).toNat →
    exec (.contentionLost rival) s =
      .next { s with
        bus := { s.bus with transmitter := .quiet, receiver := .collecting, onAir := none }
        counters := { s.counters with contentionsLost := min 65535 (s.counters.contentionsLost + 1) } }) ∧
  (∀ (rival : Byte) (x : Transmission) (s : State), s.bus.onAir = some x →
    ((x.frame[0]?).getD 0).toNat ≤ rival.toNat → exec (.contentionLost rival) s = .next s) ∧
  (∀ (rival : Byte) (s : State), s.bus.transmitter ≠ .contending → exec (.contentionLost rival) s = .next s)

/-- Whatever the memory returns, every parameter the station runs on is in its range. A record of 84 bytes is accepted when its CRC and its format
code are right, no channel stands twice in its scan list and no quantity is on two channels; it then gives each parameter by its bytes, clamped, and
one that is not accepted gives every default (R176 to R178). The strap address is from 0 to 63, each digit the band its pin's ratio lies in (R175). -/
def Obligations.LoadedConfigurationIsInRange : Prop :=
  (∀ record : List Byte, (loadSettings record).inRange = true) ∧
  (∀ r : List Byte, recordAccepted r = true ↔
    r.length = 84 ∧ (crc16 (r.take 82)).toNat = halfAt r 82 ∧ byteAt r 0 = 0xA1 ∧
    (∀ j < max 1 (min 10 (byteAt r 12)), ∀ i < j, min 9 (byteAt r (13 + i)) ≠ min 9 (byteAt r (13 + j))) ∧
    (∀ j < 10, ∀ i < j, byteAt r (23 + i) = byteAt r (23 + j) → 9 ≤ byteAt r (23 + i))) ∧
  (∀ r : List Byte, recordAccepted r = true → ∃ hOn : Int,
    hOn = max (-4024) (min 13774 (BitVec.ofNat 16 (halfAt r 43)).toInt) ∧
    loadSettings r = {
      riserGroup := min 31 (byteAt r 1), plantGroup := min 15 (byteAt r 2), height := min 600 (halfAt r 3)
      announcePeriod := max 5 (min 60 (byteAt r 5)), decisionPeriod := max 10 (min 300 (halfAt r 6))
      dwell := max 1 (min 60 (byteAt r 8))
      scanSource :=
        if byteAt r 9 = 0 then .internal else if byteAt r 9 = 1 then .external
        else if byteAt r 9 = 2 then .gated else .echo
      scanPeriod := max 500 (min 10000 (halfAt r 10))
      scanList := (List.range (max 1 (min 10 (byteAt r 12)))).map fun i => min 9 (byteAt r (13 + i))
      channelMap := (List.range 10).map fun i =>
        ([.outT, .outW, .retT, .retW, .exhT, .heatDem, .coolDem, .bypFb, .oaFb] : List Quantity)[byteAt r (23 + i)]?
      fmin := max 50 (min 500 (halfAt r 33)), qs := max 500 (min 60000 (halfAt r 35)), lc := halfAt r 37
      brel := halfAt r 39, cnom := halfAt r 41, hOn := hOn
      hOff := max (hOn + 100) (max (-4024) (min 13874 (BitVec.ofNat 16 (halfAt r 45)).toInt))
      dTrec := max 10 (min 100 (byteAt r 47)), recBand := min 50 (byteAt r 48), me := min 1000 (halfAt r 49)
      mr := min 1000 (halfAt r 51), hb := min 500 (halfAt r 53), sr := max 100 (min 2000 (halfAt r 55))
      tlow := max (-200) (min 200 (BitVec.ofNat 16 (halfAt r 57)).toInt), minUseful := max 10 (min 100 (byteAt r 59))
      smin := max 50 (min 500 (halfAt r 60))
      purgeInterval := if byteAt r 62 = 0 then 0 else max 10 (min 240 (byteAt r 62))
      purgeDuration := max 5 (min 120 (byteAt r 63)), purgeSpeed := max 50 (min 500 (halfAt r 64))
      tf := max (-100) (min 50 (BitVec.ofNat 16 (halfAt r 66)).toInt), frostBand := max 5 (min 50 (byteAt r 68))
      lostPolicy := if (byteAt r 69).testBit 7 = true then .reserve else .release, fanOwner := (byteAt r 69).testBit 6
      isolationPolicy := if (byteAt r 69).testBit 5 = true then .default else .hold
      fanDefaultOn := (byteAt r 69).testBit 4
      fallbackMode := if (byteAt r 69).testBit 3 = true then .recover else .bypass
      offDelay := min 600 (halfAt r 70), staggerInterval := max 1 (min 30 (byteAt r 72))
      intentWindow := max 1 (min 10 (byteAt r 73))
      lapse := max (-100) (min 0 (BitVec.ofNat 8 (byteAt r 74)).toInt), reach := min 600 (halfAt r 75)
      outlier := max 10 (min 200 (byteAt r 77)), holdLimit := max 1 (min 60 (byteAt r 78))
      gateWindow := max 5 (min 60 (byteAt r 79)), pulsesPerRev := min 8 (byteAt r 80)
      strokeTime := max 30 (min 240 (byteAt r 81)) }) ∧
  (∀ r : List Byte, recordAccepted r = false → loadSettings r = {
    riserGroup := 0, plantGroup := 0, height := 0, announcePeriod := 10, decisionPeriod := 30, dwell := 6
    scanSource := .internal, scanPeriod := 1000, scanList := List.range 10
    channelMap :=
      [some .outT, some .outW, some .retT, some .retW, some .exhT, some .heatDem, some .coolDem, some .bypFb,
       some .oaFb, none]
    fmin := 200, qs := 10000, lc := 0, brel := 0, cnom := 0, hOn := 2500, hOff := 4000, dTrec := 30, recBand := 10
    me := 200, mr := 300, hb := 100, sr := 800, tlow := 50, minUseful := 25, smin := 100, purgeInterval := 30
    purgeDuration := 20, purgeSpeed := 150, tf := -10, frostBand := 20, lostPolicy := .reserve, fanOwner := false
    isolationPolicy := .hold, fanDefaultOn := false, fallbackMode := .bypass, offDelay := 120, staggerInterval := 5
    intentWindow := 2, lapse := -65, reach := 200, outlier := 40, holdLimit := 10, gateWindow := 20
    pulsesPerRev := 1, strokeTime := 90 }) ∧
  (∀ hi lo : Ratio, strapAddress hi lo = 8 * strapBand hi + strapBand lo ∧ strapAddress hi lo ≤ 63) ∧
  (∀ (r : Ratio) (n : Nat), r.wf = true → n ≤ 7 → n * r.den ≤ 8 * r.num →
    (8 * r.num < (n + 1) * r.den ∨ (n = 7 ∧ r.num = r.den)) → strapBand r = n)

/-! ### What every step keeps -/

/-- The state at reset has every property the statements below say a step keeps. The strap address and the parameters held there are the model's
choice (log 1). -/
def Obligations.ResetHasEveryInvariant : Prop :=
  alarmFollows State.reset ∧ countersInRange State.reset ∧ windowsSound State.reset ∧ samplesInSpan State.reset ∧
  tableSound State.reset ∧ intentsSound State.reset ∧ grantsSound State.reset ∧ economizeHeld State.reset ∧
  allocationsCurrent State.reset ∧ capsFollow State.reset ∧ budgetsFollow State.reset ∧ commandsFollow State.reset ∧
  wheelSound State.reset ∧ safeHeld State.reset ∧ serviceTimers State.reset ∧ fanSound State.reset ∧
  slotsSound State.reset ∧ slotsAllowed State.reset ∧ idleLineServed State.reset ∧ referenceSound State.reset ∧
  State.reset.cfg.inRange = true ∧ speedsInRange State.reset

/-- ALARM is on in SERVICE and while a fault is present, and off in CONFIG and otherwise, after every step (R190). The moment within CONFIG is the
model's reading (log 7). The faults present are the conditions of section 11.3: a quantity FAILED, the reference INVALID, the wheel STALLED, a
damper's outcome FAULT, a clash, the defaults in use, a stuck line, and ISOLATED. -/
def Obligations.AlarmFollowsTheFaults : Prop :=
  (∀ s t : State, alarmFollows s → step s = .next t → alarmFollows t) ∧
  (∀ s : State, ∃ sensor reference wheelStall damper clash default stuck isolated : Bool,
    (sensor = true ↔ ∃ q ∈ Quantity.all, (s.scanner.windows.get q).state = .failed) ∧
    (reference = true ↔ s.reconciler.reference = .invalid ∧ s.startUp.lifecycle ≠ .config) ∧
    (wheelStall = true ↔ s.output.wheel = .stalled) ∧
    (damper = true ↔ s.output.bypass.outcome = .fault ∨ s.output.outdoor.outcome = .fault) ∧
    clash = s.bus.clash ∧ default = s.startUp.configDefault ∧ stuck = s.bus.stuck ∧
    (isolated = true ↔ s.startUp.lifecycle = .isolated) ∧
    faultsPresent s = {
      sensor := sensor, reference := reference, wheelStall := wheelStall, damper := damper, addressClash := clash
      configDefault := default, busStuck := stuck, isolated := isolated } ∧
    (alarmFollows s ↔ (s.responder.alarm = true ↔ s.startUp.lifecycle = .service ∨ (s.startUp.lifecycle ≠ .config ∧
      (sensor || reference || wheelStall || damper || clash || default || stuck || isolated) = true))))

/-- Every step keeps the counters within 0 to 65535 and every averaging window as its state says (R47 to R49). -/
def Obligations.CountersAndWindowsStaySound : Prop :=
  (∀ s t : State, countersInRange s → step s = .next t → countersInRange t) ∧
  (∀ s t : State, windowsSound s → step s = .next t → windowsSound t)

/-- Every step keeps the peer table within 32 records in ascending order of address, none for the own address or address 0 (R74), and the intent list
within 16 keys in ascending order, one for an address (R121). -/
def Obligations.TableAndIntentListStayOrdered : Prop :=
  (∀ s t : State, tableSound s → step s = .next t → tableSound t) ∧
  (∀ s t : State, intentsSound s → step s = .next t → intentsSound t)

/-- Every step keeps each grant in use at most the own share, and 0 outside ACTIVE or with ADDRESS_CLASH present (R107); and ECONOMIZE applied only
while the lifecycle state is ACTIVE and the relief grant in use is at least the minimum useful share (R19). -/
def Obligations.GrantsStayWithinSharesAndHoldTheEconomizer : Prop :=
  (∀ s t : State, grantsSound s → step s = .next t → grantsSound t) ∧
  (∀ s t : State, grantsSound s → economizeHeld s → step s = .next t → economizeHeld t)

/-- Every step leaves both allocations as the division of the present budget over the present participants gives them, so no change of a request, of a
record, of eligibility or of a budget is missed (R95 to R101), and the budgets as R95 gives them. The participants are the station, with its request
within its cap while ACTIVE without ADDRESS_CLASH, and the members of the budget's group, each with the request R98 gives it within its cap; those
that request nothing are dropped, and the rest stand in ascending order of address (R96 to R99). -/
def Obligations.AllocationsFollowEveryTrigger : Prop :=
  (∀ s t : State, tableSound s → capsFollow s → allocationsCurrent s → step s = .next t →
    allocationsCurrent t ∧ capsFollow t) ∧
  (∀ s t : State, budgetsFollow s → step s = .next t → budgetsFollow t) ∧
  (∀ (b : Budget) (s : State), tableSound s → ∃ (own : Nat) (members : List PeerRecord) (ps : List Participant),
    own = (if s.startUp.lifecycle = .active ∧ s.bus.clash = false then
        (match b with
         | .relief => min s.engine.reliefRequest s.engine.reliefCap
         | .wfc => min s.engine.wfcRequest s.engine.wfcCap)
      else 0) ∧
    members = (s.table.records.filter fun r => match b with | .relief => r.sameRiser | .wfc => r.samePlant) ∧
    participantsOf b s = ps ∧
    ps.Pairwise (fun p p' => p.address < p'.address) ∧
    (∀ p ∈ ps, p.share = none ∧ p.request ≠ 0 ∧
      (p.address = s.startUp.address ∨ ∃ r ∈ members, p.address = r.address)) ∧
    (own = 0 → ∀ p ∈ ps, p.address ≠ s.startUp.address) ∧
    (own ≠ 0 → { address := s.startUp.address, request := own, share := none } ∈ ps) ∧
    (∀ r ∈ members, ∃ (c : Claim) (counted : Nat),
      c = (match b with | .relief => r.said.relief | .wfc => r.said.wfc) ∧
      counted = (if r.said.flag = .joining ∨ r.said.flag = .isolated then 0
        else if r.state = .live ∨ r.state = .coasting then min c.request c.cap
        else if s.cfg.lostPolicy = .release then 0 else c.cap) ∧
      (counted = 0 → ∀ p ∈ ps, p.address ≠ r.address) ∧
      (counted ≠ 0 → { address := r.address, request := counted, share := none } ∈ ps)))

/-- Every step leaves dampers and valve at the commands of the applied mode and the grants in use, in service (R133 to R135). -/
def Obligations.CommandsFollowModeAndGrants : Prop :=
  ∀ s t : State, commandsFollow s → step s = .next t → commandsFollow t

/-- Every step keeps the wheel's outputs and timers those of its state, RUNNING exactly in the recovery pair (section 8.2, R133), the safe state and
the test positions (R142, R148), and the decision and announcement timers and a pending transition to JOINING, ACTIVE and ISOLATED (R2, R116, R160). -/
def Obligations.WheelAndSafeStateHold : Prop :=
  ∀ s t : State, wheelSound s → safeHeld s → serviceTimers s → step s = .next t →
    wheelSound t ∧ safeHeld t ∧ serviceTimers t

/-- Every step keeps the relief fan ON exactly while the fan condition holds in an owner that is active and not suspended, RELIEF_RUN with it, the
suspension with ISOLATED and BUS_STUCK, and a station without the owner setting OFF (R127 to R131). The condition is a relief grant in use above 0
here, or a relief in use above 0 at a LIVE or COASTING member of the riser group (R127). -/
def Obligations.FanFollowsItsCondition : Prop :=
  (∀ s t : State, tableSound s → fanSound s → step s = .next t → fanSound t) ∧
  (∀ s : State, fanCondition s = true ↔ 0 < s.allocator.relief.grant ∨
    ∃ r ∈ s.table.records, r.sameRiser = true ∧ (r.state = .live ∨ r.state = .coasting) ∧ 0 < r.said.relief.inUse)

/-- Every step keeps at most two REPLY frames waiting and a frame on the line exactly while the transmitter is not QUIET (R162, R163); no slot holds a
frame its lifecycle state does not allow (R172), and none is left waiting on an idle line (R163). That the receiver is COLLECTING while the station
sends, and that a frame counts as in transmission from its start bit, is the model's reading (logs 8 and 27). -/
def Obligations.TransmitSlotsServeAnIdleLine : Prop :=
  (∀ s t : State, slotsSound s → step s = .next t → slotsSound t) ∧
  (∀ s t : State, serviceTimers s → slotsAllowed s → idleLineServed s → step s = .next t →
    slotsAllowed t ∧ idleLineServed t)

/-- Every step keeps candidate count, hold timer and enthalpy those of the state of the reference, and both runs at most 30 (section 4.3, R68). -/
def Obligations.ReferenceStaysConsistent : Prop :=
  ∀ s t : State, tableSound s → referenceSound s → step s = .next t → referenceSound t

/-- Every step keeps every parameter in its range (R177), every sample in the span of its quantity (R28), and, after CONFIG, base speed and speed
target between Smin and 1000 (R14). -/
def Obligations.ParametersSamplesAndSpeedsStayInRange : Prop :=
  (∀ s t : State, s.cfg.inRange = true → step s = .next t → t.cfg.inRange = true) ∧
  (∀ s t : State, samplesInSpan s → step s = .next t → samplesInSpan t) ∧
  (∀ s t : State, s.cfg.inRange = true → samplesInSpan s → speedsInRange s → step s = .next t → speedsInRange t)

/-! ### Start-up (spec/10) -/

/-- COLD_START: CONFIG for 50 ms with the straps and the record read, every block at its start values, the counters 0, ALARM off, no sticky flag but
that of CONFIG_DEFAULT for a record not accepted; the defaults then (R174, R178). The queue and the count of free values are the model's own and kept
(log 20), and CONFIG_DEFAULT is present from here (log 7). Until CONFIG_END the blocks stand at the start values of the default configuration,
whatever record was accepted (the model's choice, log 1). -/
def Obligations.ColdStartTakesStartValues : Prop :=
  ∀ (hi lo : Ratio) (record : List Byte) (s : State), ∃ t, exec (.coldStart hi lo record) s = .next t ∧
    t.startUp = {
      lifecycle := .config, address := strapAddress hi lo, settings := loadSettings record,
      configDefault := !recordAccepted record, configTimer := some 50, listenTimer := none, ownCount := 0,
      restartPending := false } ∧
    t.scanner = startScanner defaultSettings ∧ t.rotation = idleRotation ∧ t.reconciler = startReconciler ∧
    t.engine = startEngine defaultSettings ∧ t.table = startTable ∧ t.allocator = startAllocator defaultSettings ∧
    t.stagger = idleStagger ∧ t.fan = startFan ∧ t.output = startOutput 200 ∧ t.bus = startBus .off ∧
    t.counters = zeroCounters ∧ t.responder.alarm = false ∧
    t.responder.sticky = { noFaults with configDefault := !recordAccepted record } ∧
    t.freeDraws = s.freeDraws ∧ t.pending = s.pending

/-- CONFIG_END: every block takes the loaded configuration, the scan timer starts, ALARM is on for REFERENCE, and the station is in SERVICE at address
0, else in COMMISSION in the first phase of the polarity test (R40, R142, R179, R190). When the 50 ms do not run, nothing. Outside the polarity test
no settle timer starts here (the model's reading, log 15). -/
def Obligations.ConfigEndHandsOverTheConfiguration : Prop :=
  (∀ s : State, s.startUp.configTimer.isSome = true → s.startUp.lifecycle = .config →
    ∃ t, exec .configEnd s = .next t ∧
    t.startUp = { s.startUp with
      configTimer := none, lifecycle := if s.startUp.address = 0 then .service else .commission } ∧
    t.scanner = { startScanner s.cfg with
      scanTimer := if s.cfg.scanSource = .external then none else some s.cfg.scanPeriod } ∧
    t.rotation = idleRotation ∧ t.reconciler = startReconciler ∧ t.engine = startEngine s.cfg ∧ t.table = startTable ∧
    t.allocator = startAllocator s.cfg ∧ t.stagger = idleStagger ∧ t.fan = startFan ∧
    (s.startUp.address = 0 → t.output = startOutput s.cfg.fmin) ∧
    (s.startUp.address ≠ 0 → t.output = { startOutput s.cfg.fmin with
      bypass := { startDamper 0 with settle := some (secs s.cfg.strokeTime) }
      test := some { phase := .bypassLow, left := secs s.cfg.strokeTime, bypassA := none, outdoorA := none } }) ∧
    t.bus = startBus .waitIdle ∧ t.responder = { s.responder with alarm := true } ∧ t.counters = s.counters ∧
    t.freeDraws = s.freeDraws ∧ t.pending = s.pending) ∧
  (∀ s : State, s.startUp.configTimer = none ∨ s.startUp.lifecycle ≠ .config → exec .configEnd s = .next s)

/-- LISTEN_TIMER_EXPIRY in LISTEN: JOINING, with the decision timer at D, the announcement timer at address × 50 ms, the count at 0 and, for a purge
interval that is not 0, the idle timer at 0; the relief fan of an owner is active (R2, R131, R137, R160, R180). LAST_HEARD_TIMER_EXPIRY: a station
that was heard from, in JOINING or ACTIVE, becomes ISOLATED with its grants 0, no ECONOMIZE, the timer stopped and its owner's fan suspended (R109,
R130, R170); any other one restarts the timer and changes nothing else (R169). It happens when no time is left on the timer, so not after a frame
taken first (R171; the count that says so is the model's, log 5). The suspension comes before the grants are zeroed (the model's reading, log 14). -/
def Obligations.ListenAndSilenceMoveTheLifecycle : Prop :=
  (∀ s : State, s.startUp.listenTimer.isSome = true → s.startUp.lifecycle = .listen →
    ∃ t, exec .listenTimerExpiry s = .next t ∧
    t.startUp = { s.startUp with lifecycle := .joining, listenTimer := none, ownCount := 0 } ∧
    t.engine = { s.engine with decisionTimer := some (secs s.cfg.decisionPeriod) } ∧
    t.bus = { s.bus with announceTimer := some (s.startUp.address * 50) } ∧
    t.output.idle = (if s.cfg.purgeInterval = 0 then none else some 0) ∧ t.output.wheel = s.output.wheel ∧
    t.output.bypass.command = bypassCommand s ∧ t.output.outdoor.command = outdoorCommand s ∧
    t.output.wfcPos = valveCommand s.cfg.lc (s.grant .wfc) ∧
    (s.cfg.fanOwner = false → t.fan = s.fan) ∧
    (s.cfg.fanOwner = true → s.bus.stuck = true → t.fan.suspended = true ∧ t.fan.state = s.fan.state) ∧
    (s.cfg.fanOwner = true → s.bus.stuck = false → t.fan.suspended = false ∧
      (t.fan.state = .on ↔ fanCondition s = true)) ∧
    t.scanner = s.scanner ∧ t.rotation = s.rotation ∧ t.reconciler = s.reconciler ∧ t.table = s.table ∧
    t.allocator = s.allocator ∧ t.stagger = s.stagger ∧ t.counters = s.counters ∧
    t.responder.sticky = s.responder.sticky) ∧
  (∀ s : State, s.startUp.listenTimer = none ∨ s.startUp.lifecycle ≠ .listen →
    exec .listenTimerExpiry s = .next s) ∧
  (∀ s : State, s.bus.lastHeard = some 0 → s.bus.heard = true →
    s.startUp.lifecycle = .joining ∨ s.startUp.lifecycle = .active → grantsSound s → economizeHeld s →
    ∃ t, exec .lastHeardTimerExpiry s = .next t ∧
    t.startUp = { s.startUp with lifecycle := .isolated } ∧ t.bus.lastHeard = none ∧ t.bus.heard = true ∧
    t.grant .relief = 0 ∧ t.grant .wfc = 0 ∧ t.engine.applied ≠ .economize ∧
    t.responder.sticky = { s.responder.sticky with isolated := true } ∧ t.responder.alarm = true ∧
    (s.cfg.fanOwner = true → t.fan.suspended = true) ∧
    t.scanner = s.scanner ∧ t.reconciler = s.reconciler ∧ t.table = s.table ∧ t.counters = s.counters ∧
    t.bus.announceTimer = s.bus.announceTimer ∧ t.engine.decisionTimer = s.engine.decisionTimer) ∧
  (∀ s : State, s.bus.lastHeard = some 0 →
    s.bus.heard = false ∨ (s.startUp.lifecycle ≠ .joining ∧ s.startUp.lifecycle ≠ .active) →
    exec .lastHeardTimerExpiry s =
      .next { s with bus := { s.bus with lastHeard := some (secs (5 * s.cfg.announcePeriod)) } }) ∧
  (∀ s : State, s.bus.lastHeard ≠ some 0 → exec .lastHeardTimerExpiry s = .next s)

/-! ### Measurement (spec/03) -/

/-- SCAN_TIMER_EXPIRY restarts the timer; it is a strobe under INTERNAL and ECHO, and under GATED with SCAN_IN high, and pulses SCAN_OUT under ECHO.
SCAN_IN_RISING_EDGE is a strobe under EXTERNAL after CONFIG, else nothing. A strobe starts a scan, or is dropped and counted while one is in flight.
SCAN_OUT_PULSE_END ends the pulse (R40 to R45). -/
def Obligations.StrobesStartScansOrAreDropped : Prop :=
  (∀ (scanIn : Bool) (s : State), s.scanner.scanTimer.isSome = true → ∃ strobed : Bool,
    (strobed = true ↔
      s.cfg.scanSource = .internal ∨ s.cfg.scanSource = .echo ∨ (s.cfg.scanSource = .gated ∧ scanIn = true)) ∧
    exec (.scanTimerExpiry scanIn) s = .next { s with
      scanner := { s.scanner with
        scanTimer := some s.cfg.scanPeriod
        scanOut := s.scanner.scanOut || decide (s.cfg.scanSource = .echo)
        scanOutTimer := if s.cfg.scanSource = .echo then some 1 else s.scanner.scanOutTimer
        scan := if strobed = true ∧ s.scanner.scan = none then some { delivered := 0, left := 2 } else s.scanner.scan }
      counters := { s.counters with
        scanOverruns :=
          if strobed = true ∧ s.scanner.scan ≠ none then min 65535 (s.counters.scanOverruns + 1)
          else s.counters.scanOverruns } }) ∧
  (∀ (scanIn : Bool) (s : State), s.scanner.scanTimer = none → exec (.scanTimerExpiry scanIn) s = .next s) ∧
  (∀ s : State, s.cfg.scanSource = .external → s.startUp.lifecycle ≠ .config →
    exec .scanInRisingEdge s = .next { s with
      scanner := { s.scanner with
        scan := if s.scanner.scan = none then some { delivered := 0, left := 2 } else s.scanner.scan }
      counters := { s.counters with
        scanOverruns :=
          if s.scanner.scan = none then s.counters.scanOverruns else min 65535 (s.counters.scanOverruns + 1) } }) ∧
  (∀ s : State, s.cfg.scanSource ≠ .external ∨ s.startUp.lifecycle = .config →
    exec .scanInRisingEdge s = .next s) ∧
  (∀ s : State, s.scanner.scanOutTimer.isSome = true →
    exec .scanOutPulseEnd s = .next { s with scanner := { s.scanner with scanOut := false, scanOutTimer := none } }) ∧
  (∀ s : State, s.scanner.scanOutTimer = none → exec .scanOutPulseEnd s = .next s)

/-- CONVERSION_COMPLETE with an accepted code: the scan goes on, the value enters the window of its quantity as the most recent of at most sixteen and
becomes the last accepted value; the twelfth makes the quantity VALID, with no substitute run (R44, R46 to R48). A quantity that is not an outdoor one
changes nothing else but SENSOR's ALARM. With no scan in flight nothing happens; on a channel of NONE or of an ABSENT quantity the code is discarded. -/
def Obligations.AcceptedSampleEntersItsWindow : Prop :=
  (∀ (code : Code) (f : ScanInFlight) (q : Quantity) (v : Int) (s : State), s.scanner.scan = some f →
    (s.cfg.scanList[f.delivered]?).bind s.cfg.quantityOn = some q → (s.scanner.windows.get q).state ≠ .absent →
    sampleOf q code.toNat = some v → ∃ t w, exec (.conversionComplete code) s = .next t ∧
    t.scanner.windows.get q = w ∧
    w.samples =
      (if (s.scanner.windows.get q).samples.length < 16 then (s.scanner.windows.get q).samples
       else (s.scanner.windows.get q).samples.drop 1) ++ [v] ∧
    w.lastAccepted = some v ∧
    w.state =
      (if (s.scanner.windows.get q).state = .valid ∨ 12 ≤ w.samples.length then .valid
       else (s.scanner.windows.get q).state) ∧
    (w.state = .valid → w.substituteRun = 0) ∧
    (∀ q', q' ≠ q → t.scanner.windows.get q' = s.scanner.windows.get q') ∧
    t.scanner.scan =
      (if f.delivered + 1 < s.cfg.scanList.length then some { delivered := f.delivered + 1, left := 2 } else none) ∧
    t.scanner.scanTimer = s.scanner.scanTimer ∧ t.startUp = s.startUp ∧ t.table = s.table ∧ t.counters = s.counters ∧
    t.responder.sticky = s.responder.sticky ∧ t.freeDraws = s.freeDraws ∧
    (q ≠ .outT → q ≠ .outW → ∃ alarm, t = { s with
      scanner := t.scanner, responder := { s.responder with alarm := alarm } })) ∧
  (∀ (code : Code) (f : ScanInFlight) (s : State), s.scanner.scan = some f →
    (∀ q, (s.cfg.scanList[f.delivered]?).bind s.cfg.quantityOn = some q → (s.scanner.windows.get q).state = .absent) →
    exec (.conversionComplete code) s = .next { s with
      scanner := { s.scanner with
        scan :=
          if f.delivered + 1 < s.cfg.scanList.length then some { delivered := f.delivered + 1, left := 2 } else none } }) ∧
  (∀ (code : Code) (s : State), s.scanner.scan = none → exec (.conversionComplete code) s = .next s)

/-- CONVERSION_COMPLETE with a rejected code: sample_rejects is counted; a FILLING or FAILED window is emptied; a VALID one takes the last accepted
value as a substitute up to the seventh in a row, and is emptied and FAILED at the eighth, which makes SENSOR present with its sticky flag unless it
was (R46, R49, R50). -/
def Obligations.RejectedSampleSubstitutesOrEmpties : Prop :=
  ∀ (code : Code) (f : ScanInFlight) (q : Quantity) (s : State), s.scanner.scan = some f →
    (s.cfg.scanList[f.delivered]?).bind s.cfg.quantityOn = some q → (s.scanner.windows.get q).state ≠ .absent →
    (s.scanner.windows.get q).sound → sampleOf q code.toNat = none →
    ∃ t, exec (.conversionComplete code) s = .next t ∧
    t.counters = { s.counters with sampleRejects := min 65535 (s.counters.sampleRejects + 1) } ∧
    ((s.scanner.windows.get q).state ≠ .valid →
      t.scanner.windows.get q = emptyWindow (s.scanner.windows.get q).state) ∧
    ((s.scanner.windows.get q).state = .valid → (s.scanner.windows.get q).substituteRun < 7 →
      ∃ x, (s.scanner.windows.get q).lastAccepted = some x ∧
        t.scanner.windows.get q = {
          state := .valid
          samples :=
            (if (s.scanner.windows.get q).samples.length < 16 then (s.scanner.windows.get q).samples
             else (s.scanner.windows.get q).samples.drop 1) ++ [x]
          lastAccepted := some x
          substituteRun := (s.scanner.windows.get q).substituteRun + 1 }) ∧
    ((s.scanner.windows.get q).state = .valid → (s.scanner.windows.get q).substituteRun = 7 →
      t.scanner.windows.get q = emptyWindow .failed ∧
      t.responder.sticky.sensor = (s.responder.sticky.sensor || !s.scanner.windows.anyFailed) ∧
      (s.startUp.lifecycle ≠ .config → t.responder.alarm = true)) ∧
    (∀ q', q' ≠ q → t.scanner.windows.get q' = s.scanner.windows.get q') ∧
    t.scanner.scan =
      (if f.delivered + 1 < s.cfg.scanList.length then some { delivered := f.delivered + 1, left := 2 } else none) ∧
    t.startUp = s.startUp ∧ t.table = s.table ∧ t.freeDraws = s.freeDraws ∧
    (q ≠ .outT → q ≠ .outW → t = { s with
      scanner := t.scanner, counters := t.counters, responder := t.responder })

/-! ### The outdoor reference (spec/04) -/

/-- The reference is recomputed, by R63 and R64, when an OUT_T or OUT_W sample is accepted, when a rejected one gives a VALID quantity a substitute or
makes it FAILED, when a LIVE record becomes COASTING and when a LOST record is freed (R62). The candidates are the own averages, both VALID, of a
sensor INCLUDED (R60), and the present observation of each LIVE record within reach, its temperature corrected to the own height and its humidity
clamped (R61). -/
def Obligations.ReferenceRecomputedOnReports : Prop :=
  (∀ s : State, candidates s = (ownCandidate s).toList ++ peerCandidates s ∧
    (∀ t w : Int, s.reconciler.own = .included → s.reading .outT = some t → s.reading .outW = some w →
      ownCandidate s = some (t, w)) ∧
    (s.reconciler.own = .excluded ∨ s.reading .outT = none ∨ s.reading .outW = none → ownCandidate s = none) ∧
    peerCandidates s = s.table.records.flatMap fun r =>
      match r.said.observation with
      | some o =>
        if r.state = .live ∧
            (((min 600 s.cfg.height : Nat) : Int) - ((min 600 r.said.height : Nat) : Int)).natAbs ≤ s.cfg.reach then
          [(correctedTemp s.cfg.lapse s.cfg.height r.said.height o.t, max 0 (min 3000 (o.w : Int)))]
        else []
      | none => []) ∧
  (∀ (code : Code) (f : ScanInFlight) (q : Quantity) (s : State), q = .outT ∨ q = .outW →
    s.scanner.scan = some f → (s.cfg.scanList[f.delivered]?).bind s.cfg.quantityOn = some q →
    (s.scanner.windows.get q).state = .valid → sampleOf q code.toNat = none →
    ∃ t, exec (.conversionComplete code) s = .next t ∧ referenceFollows s t) ∧
  (∀ (code : Code) (f : ScanInFlight) (q : Quantity) (v : Int) (s : State), q = .outT ∨ q = .outW →
    s.scanner.scan = some f → (s.cfg.scanList[f.delivered]?).bind s.cfg.quantityOn = some q →
    (s.scanner.windows.get q).state ≠ .absent → sampleOf q code.toNat = some v →
    ∃ t, exec (.conversionComplete code) s = .next t ∧ referenceFollows s t) ∧
  (∀ (expiry : SilenceExpiry) (order : ReportOrder) (r : PeerRecord) (s : State), tableSound s →
    r ∈ s.table.records → r.address = expiry.peer.toNat → r.state = .live →
    2 * (max 5 (min 60 r.said.period)) * 1000 ≤ max r.silence expiry.elapsed →
    ∃ t, exec (.silenceCoasting expiry order) s = .next t ∧ referenceFollows s t) ∧
  (∀ (expiry : SilenceExpiry) (order : ReportOrder) (r : PeerRecord) (s : State), tableSound s →
    r ∈ s.table.records → r.address = expiry.peer.toNat → r.state = .lost →
    30 * (max 5 (min 60 r.said.period)) * 1000 ≤ max r.silence expiry.elapsed →
    ∃ t, exec (.silenceFreed expiry order) s = .next t ∧ referenceFollows s t)

/-- An accepted OUT_T sample judges the own sensor when OUT_T is then VALID and two peer candidates stand: by its average against the lower median of
their corrected temperatures, more than the outlier limit apart being a disagreement. The runs and the state move as the table of R68 gives; without a
judgement they stay (R67, R68). -/
def Obligations.OwnSensorJudgedAgainstPeers : Prop :=
  ∀ (code : Code) (f : ScanInFlight) (v : Int) (s : State), s.scanner.scan = some f →
    (s.cfg.scanList[f.delivered]?).bind s.cfg.quantityOn = some .outT → s.scanner.windows.outT.state ≠ .absent →
    sampleOf .outT code.toNat = some v → ∃ t, exec (.conversionComplete code) s = .next t ∧
    (t.reading .outT = none ∨ (peerCandidates s).length < 2 →
      t.reconciler.own = s.reconciler.own ∧ t.reconciler.disagreeRun = s.reconciler.disagreeRun ∧
      t.reconciler.agreeRun = s.reconciler.agreeRun) ∧
    (∀ own med : Int, t.reading .outT = some own → 2 ≤ (peerCandidates s).length →
      lowerMedian ((peerCandidates s).map Prod.fst) = some med →
      ((own - med).natAbs > s.cfg.outlier → s.reconciler.own = .included →
        (s.reconciler.disagreeRun < 29 → t.reconciler.own = .included ∧
          t.reconciler.disagreeRun = s.reconciler.disagreeRun + 1 ∧ t.reconciler.agreeRun = 0) ∧
        (29 ≤ s.reconciler.disagreeRun → t.reconciler.own = .excluded ∧
          t.reconciler.disagreeRun = 0 ∧ t.reconciler.agreeRun = 0)) ∧
      ((own - med).natAbs ≤ s.cfg.outlier → s.reconciler.own = .included →
        t.reconciler.own = .included ∧ t.reconciler.disagreeRun = 0 ∧
        t.reconciler.agreeRun = min 30 (s.reconciler.agreeRun + 1)) ∧
      ((own - med).natAbs ≤ s.cfg.outlier → s.reconciler.own = .excluded →
        (s.reconciler.agreeRun < 29 → t.reconciler.own = .excluded ∧
          t.reconciler.agreeRun = s.reconciler.agreeRun + 1 ∧ t.reconciler.disagreeRun = 0) ∧
        (29 ≤ s.reconciler.agreeRun → t.reconciler.own = .included ∧
          t.reconciler.disagreeRun = 0 ∧ t.reconciler.agreeRun = 0)) ∧
      ((own - med).natAbs > s.cfg.outlier → s.reconciler.own = .excluded →
        t.reconciler.own = .excluded ∧ t.reconciler.disagreeRun = min 30 (s.reconciler.disagreeRun + 1) ∧
        t.reconciler.agreeRun = 0))

/-- HOLD_TIMER_EXPIRY of a HELD reference: INVALID, the timer stopped, REFERENCE present with its sticky flag, and the WFC budget 0, with the WFC
share and grant in use 0 when the budget was not 0 before (R65, R95, R108). With the timer stopped, nothing. -/
def Obligations.HoldExpiryInvalidatesTheReference : Prop :=
  (∀ (p : OutdoorPoint) (s : State), s.reconciler.reference = .held p → s.reconciler.hold.isSome = true →
    ∃ t, exec .holdTimerExpiry s = .next t ∧
    t.reconciler = { s.reconciler with reference := .invalid, count := 0, hold := none } ∧
    t.responder.sticky = { s.responder.sticky with reference := true } ∧
    (s.startUp.lifecycle ≠ .config → t.responder.alarm = true) ∧ t.allocator.wfc.value = 0 ∧
    (s.allocator.wfc.value ≠ 0 → t.allocator.wfc.ownShare = 0 ∧ t.grant .wfc = 0) ∧
    t.allocator.relief = s.allocator.relief ∧ t.startUp = s.startUp ∧ t.scanner = s.scanner ∧ t.engine = s.engine ∧
    t.table = s.table ∧ t.stagger = s.stagger ∧ t.fan = s.fan ∧ t.bus = s.bus ∧ t.counters = s.counters ∧
    t.output = { s.output with wfcPos := t.output.wfcPos }) ∧
  (∀ s : State, s.reconciler.hold = none → exec .holdTimerExpiry s = .next s)

/-! ### The rotation counter and the wheel (spec/03, spec/08) -/

/-- ROT_IN_RISING_EDGE counts while a gate window runs. GATE_WINDOW_EXPIRY that does not find a second zero in a row records the speed and starts the
next window (R54, R55). The second in a row declares the wheel STALLED: outputs off, counter idle, WHEEL_STALL with its sticky flag, and the recovery
pair forced to BYPASS (R20, R23, R55, R140). -/
def Obligations.GateWindowsMeasureOrStall : Prop :=
  (∀ s : State, s.rotation.gate.isSome = true →
    exec .rotInRisingEdge s =
      .next { s with rotation := { s.rotation with pulses := min 65535 (s.rotation.pulses + 1) } }) ∧
  (∀ s : State, s.rotation.gate = none →
    exec .rotInRisingEdge s = .next s ∧ exec .gateWindowExpiry s = .next s) ∧
  (∀ s : State, s.rotation.gate.isSome = true →
    s.rotation.settling = true ∨ 0 < s.rotation.pulses ∨ s.rotation.zeroRun = 0 →
    exec .gateWindowExpiry s = .next { s with
      rotation := {
        gate := some (secs s.cfg.gateWindow), pulses := 0, settling := false
        zeroRun :=
          if s.rotation.settling = true then s.rotation.zeroRun
          else if s.rotation.pulses = 0 then s.rotation.zeroRun + 1 else 0
        rpm := s.rotation.pulses * 60 / (s.cfg.pulsesPerRev * s.cfg.gateWindow) } }) ∧
  (∀ s : State, s.rotation.gate.isSome = true → s.rotation.settling = false → s.rotation.pulses = 0 →
    1 ≤ s.rotation.zeroRun → ∃ t, exec .gateWindowExpiry s = .next t ∧
    t.output.wheel = .stalled ∧ t.output.wheelRun = false ∧ t.output.wheelSpd = 0 ∧ t.output.idle = none ∧
    t.output.purge = none ∧ t.rotation = idleRotation ∧
    t.responder.sticky = { s.responder.sticky with wheelStall := true } ∧
    (s.startUp.lifecycle ≠ .config → t.responder.alarm = true) ∧
    (s.engine.applied.inPair = true →
      t.engine = { s.engine with applied := .bypass, target := .bypass, dwell := 0 } ∧ t.stagger.pending = none ∧
      (s.startUp.lifecycle.inService = true →
        t.output.bypass.command = 1000 ∧ t.output.outdoor.command = s.cfg.fmin)) ∧
    (s.engine.applied.inPair = false → t.engine = s.engine ∧ t.stagger = s.stagger ∧ t.bus = s.bus) ∧
    t.startUp = s.startUp ∧ t.scanner = s.scanner ∧ t.reconciler = s.reconciler ∧ t.table = s.table ∧
    t.allocator = s.allocator ∧ t.fan = s.fan ∧ t.counters = s.counters ∧ t.output.wfcPos = s.output.wfcPos)

/-- The expiries that move one owner's state. IDLE and PURGE: the wheel between STOPPED and PURGING, with its outputs and timers (R137, R138). SETTLE:
the damper is no longer settling (R145). FORCE_BYPASS: the timer stops, the applied mode stays (R22). OFF_DELAY: the fan becomes OFF, but not while
suspended or dormant (R128, R130, R131). -/
def Obligations.TimersOfWheelDamperAndFanExpire : Prop :=
  (∀ s : State, s.output.idle.isSome = true → s.output.wheel = .stopped → ∃ alarm,
    exec .idleTimerExpiry s = .next { s with
      output := { s.output with
        wheel := .purging, idle := none, purge := some (secs s.cfg.purgeDuration), wheelRun := true
        wheelSpd := s.cfg.purgeSpeed }
      rotation := idleRotation, responder := { s.responder with alarm := alarm } }) ∧
  (∀ s : State, s.output.purge.isSome = true → s.output.wheel = .purging → ∃ alarm,
    exec .purgeTimerExpiry s = .next { s with
      output := { s.output with
        wheel := .stopped, purge := none, wheelRun := false, wheelSpd := 0
        idle := if s.cfg.purgeInterval = 0 ∨ s.startUp.lifecycle.inService = false then none else some 0 }
      rotation := idleRotation, responder := { s.responder with alarm := alarm } }) ∧
  (∀ s : State, (s.output.idle = none → exec .idleTimerExpiry s = .next s) ∧
    (s.output.purge = none → exec .purgeTimerExpiry s = .next s)) ∧
  (∀ s : State, s.output.bypass.settle.isSome = true → exec (.settleTimerExpiry .bypass) s =
    .next { s with output := { s.output with bypass := { s.output.bypass with settle := none } } }) ∧
  (∀ s : State, s.output.outdoor.settle.isSome = true → exec (.settleTimerExpiry .outdoor) s =
    .next { s with output := { s.output with outdoor := { s.output.outdoor with settle := none } } }) ∧
  (∀ s : State, (s.output.bypass.settle = none → exec (.settleTimerExpiry .bypass) s = .next s) ∧
    (s.output.outdoor.settle = none → exec (.settleTimerExpiry .outdoor) s = .next s)) ∧
  (∀ s : State, s.engine.forceBypass.isSome = true →
    exec .forceBypassTimerExpiry s = .next { s with engine := { s.engine with forceBypass := none } }) ∧
  (∀ s : State, s.engine.forceBypass = none → exec .forceBypassTimerExpiry s = .next s) ∧
  (∀ s : State, s.cfg.fanOwner = true → s.startUp.lifecycle.inService = true → s.fan.suspended = false →
    s.fan.offDelay.isSome = true → s.fan.state = .offDelay →
    exec .offDelayTimerExpiry s =
      .next { s with fan := { s.fan with state := .off, offDelay := none, reliefRun := false } }) ∧
  (∀ s : State, s.fan.suspended = true ∨ s.startUp.lifecycle.inService = false ∨ s.fan.offDelay = none →
    exec .offDelayTimerExpiry s = .next s)

/-- POLARITY_PHASE_END: the readings, outcomes and drives of the four phases, each drive that moves a damper starting its settle timer, and LISTEN
after the fourth with its listen and last-heard timers, OA_POS back at Fmin and settling (R142, R143, R145, R169, R180). A FAULT found when no damper
was in FAULT sets the sticky DAMPER flag (R144). A damper a phase leaves in place starts no settle timer (the model's reading, log 15). -/
def Obligations.PolarityTestRunsItsFourPhases : Prop :=
  (∀ (p : PolarityTest) (s : State), s.output.test = some p → s.startUp.lifecycle = .commission → safeHeld s →
    s.engine.applied ≠ .economize → ∃ t, exec .polarityPhaseEnd s = .next t ∧
    (p.phase = .bypassLow →
      t.output.test = some {
        phase := .bypassHigh, left := secs s.cfg.strokeTime, bypassA := s.reading .bypFb, outdoorA := p.outdoorA } ∧
      t.output.bypass =
        { s.output.bypass with command := 1000, settle := some (secs s.cfg.strokeTime) } ∧
      t.output.outdoor = s.output.outdoor ∧ t.startUp = s.startUp) ∧
    (p.phase = .bypassHigh →
      t.output.test = some {
        phase := .outdoorLow, left := secs s.cfg.strokeTime, bypassA := p.bypassA, outdoorA := p.outdoorA } ∧
      t.output.bypass = { s.output.bypass with outcome := polarityOf p.bypassA (s.reading .bypFb) } ∧
      (s.cfg.fmin ≠ 0 → t.output.outdoor =
        { s.output.outdoor with command := 0, settle := some (secs s.cfg.strokeTime) }) ∧
      t.responder.sticky =
        (if polarityOf p.bypassA (s.reading .bypFb) = .fault ∧ s.output.bypass.outcome ≠ .fault ∧
            s.output.outdoor.outcome ≠ .fault then { s.responder.sticky with damper := true } else s.responder.sticky) ∧
      t.startUp = s.startUp) ∧
    (p.phase = .outdoorLow →
      t.output.test = some {
        phase := .outdoorHigh, left := secs s.cfg.strokeTime, bypassA := p.bypassA, outdoorA := s.reading .oaFb } ∧
      t.output.bypass = s.output.bypass ∧
      t.output.outdoor =
        { s.output.outdoor with command := 1000, settle := some (secs s.cfg.strokeTime) } ∧
      t.startUp = s.startUp) ∧
    (p.phase = .outdoorHigh →
      t.output.test = none ∧ t.output.bypass = s.output.bypass ∧
      t.output.outdoor.outcome = polarityOf p.outdoorA (s.reading .oaFb) ∧ t.output.outdoor.command = s.cfg.fmin ∧
      t.output.outdoor.mismatches = s.output.outdoor.mismatches ∧
      (s.cfg.fmin ≠ 1000 → t.output.outdoor.settle = some (secs s.cfg.strokeTime)) ∧
      t.responder.sticky =
        (if polarityOf p.outdoorA (s.reading .oaFb) = .fault ∧ s.output.bypass.outcome ≠ .fault ∧
            s.output.outdoor.outcome ≠ .fault then { s.responder.sticky with damper := true } else s.responder.sticky) ∧
      t.startUp = { s.startUp with
        lifecycle := .listen, listenTimer := some (secs (3 * s.cfg.announcePeriod)) } ∧
      t.bus = { s.bus with lastHeard := some (secs (5 * s.cfg.announcePeriod)) }) ∧
    t.scanner = s.scanner ∧ t.engine = s.engine ∧ t.table = s.table ∧ t.allocator = s.allocator ∧
    t.counters = s.counters ∧ t.output.wheel = s.output.wheel ∧ t.output.wfcPos = s.output.wfcPos) ∧
  (∀ a b : Int,
    (500 ≤ b - a → polarityOf (some a) (some b) = .normal) ∧ (500 ≤ a - b → polarityOf (some a) (some b) = .reversed) ∧
    (b - a < 500 → a - b < 500 → polarityOf (some a) (some b) = .fault)) ∧
  (∀ a b : Option Int, a = none ∨ b = none → polarityOf a b = .untested) ∧
  (∀ s : State, s.output.test = none ∨ s.startUp.lifecycle ≠ .commission → exec .polarityPhaseEnd s = .next s)

/-! ### The decision (spec/01) -/

/-- DECISION restarts its timer, records regime and fallback by R6 and the base speed by R14, sets requests and caps by R6 and R9, and with the relief
request the wanted fraction in force (R134), the outcome of the outdoor damper being that in force when the stages are taken (R147). What it may
change elsewhere is named by what it leaves. -/
def Obligations.DecisionClassifiesAndRequests : Prop :=
  (∀ (order : DecisionOrder) (s : State), s.engine.decisionTimer.isSome = true →
    ∃ (t : State) (dh dc : Nat), exec (.decision order) s = .next t ∧
    dh = ((s.reading .heatDem).getD 0).toNat ∧ dc = ((s.reading .coolDem).getD 0).toNat ∧
    t.engine.decisionTimer = some (secs s.cfg.decisionPeriod) ∧
    t.engine.regime = (if 50 ≤ dh ∧ dc < dh then .heating else if 50 ≤ dc ∧ dh ≤ dc then .cooling else .neutral) ∧
    (t.engine.fallback = true ↔
      s.reading .retT = none ∨ s.reading .retW = none ∨ s.reconciler.reference = .invalid) ∧
    t.engine.reliefCap = (1000 - s.cfg.fmin) * s.cfg.qs / 1000 ∧ t.engine.wfcCap = s.cfg.lc ∧
    t.engine.reliefRequest =
      (if t.engine.fallback = false ∧ t.engine.candidate = .economize ∧ s.engine.forceBypass = none ∧
          (match order with
           | .judgementFirst => t.output.outdoor.outcome
           | .stagesFirst => s.output.outdoor.outcome) ≠ .fault ∧
          s.startUp.lifecycle = .active ∧ s.bus.clash = false then
        ((s.cfg.fmin + (1000 - s.cfg.fmin) * dc / 1000) - s.cfg.fmin) * s.cfg.qs / 1000
       else 0) ∧
    t.output.wanted =
      (if t.engine.fallback = false ∧ t.engine.candidate = .economize ∧ s.engine.forceBypass = none ∧
          (match order with
           | .judgementFirst => t.output.outdoor.outcome
           | .stagesFirst => s.output.outdoor.outcome) ≠ .fault ∧
          s.startUp.lifecycle = .active ∧ s.bus.clash = false then
        s.cfg.fmin + (1000 - s.cfg.fmin) * dc / 1000
       else s.cfg.fmin) ∧
    (∀ p ∈ s.reconciler.reference.point, t.engine.wfcRequest =
      (if t.engine.fallback = false ∧ t.engine.regime = .cooling ∧ p.h < s.cfg.hOff ∧
          s.startUp.lifecycle = .active ∧ s.bus.clash = false then dc * s.cfg.lc / 1000 else 0)) ∧
    (s.reconciler.reference = .invalid → t.engine.wfcRequest = 0) ∧
    (t.engine.regime = .heating → t.engine.baseSpeed = max s.cfg.smin dh) ∧
    (t.engine.regime = .neutral → t.engine.baseSpeed = s.cfg.smin) ∧
    (t.engine.regime = .cooling → t.engine.fallback = true → t.engine.baseSpeed = s.cfg.smin) ∧
    (∀ rt rw : Int, ∀ p ∈ s.reconciler.reference.point, t.engine.regime = .cooling → s.reading .retT = some rt →
      s.reading .retW = some rw →
      t.engine.baseSpeed = s.cfg.smin +
        (1000 - s.cfg.smin) * (max 0 (min (s.cfg.sr : Int) (p.h - enthalpy rt rw - s.cfg.mr))).toNat / s.cfg.sr) ∧
    t.engine.forceBypass = s.engine.forceBypass ∧ t.startUp = s.startUp ∧ t.scanner = s.scanner ∧
    t.reconciler = s.reconciler ∧ t.table = s.table ∧ t.counters = s.counters ∧ t.freeDraws = s.freeDraws ∧
    t.bus.announceSlot = s.bus.announceSlot ∧ t.bus.replySlots = s.bus.replySlots ∧ t.bus.sequence = s.bus.sequence) ∧
  (∀ (order : DecisionOrder) (s : State), s.engine.decisionTimer = none → exec (.decision order) s = .next s)

/-- The candidate of stage 4: by R7 in HEATING and NEUTRAL, by R8 in COOLING, with the bands of the mode applied at that stage, which a judgement of
the dampers taken first has moved from ECONOMIZE to BYPASS when it makes the outdoor damper FAULT; in fallback the configured mode (R6). A pending
transition plays no part. -/
def Obligations.CandidateFollowsTheConditions : Prop :=
  ∀ (order : DecisionOrder) (s : State), s.engine.decisionTimer.isSome = true →
    ∃ (t : State) (applied : Mode), exec (.decision order) s = .next t ∧
    applied = (if order = .judgementFirst ∧ s.engine.applied = .economize ∧
        t.output.outdoor.outcome ≠ s.output.outdoor.outcome then .bypass else s.engine.applied) ∧
    (t.engine.fallback = true →
      (s.cfg.fallbackMode = .bypass → t.engine.candidate = .bypass) ∧
      (s.cfg.fallbackMode = .recover → t.engine.candidate = .recover)) ∧
    (t.engine.fallback = false → t.engine.regime = .neutral → t.engine.candidate = .bypass) ∧
    (∀ rt rw : Int, ∀ p ∈ s.reconciler.reference.point, s.reading .retT = some rt → s.reading .retW = some rw →
      ∃ (recoveryBand coolingBand economyBand : Int),
      recoveryBand = (if applied.inPair = true then (s.cfg.recBand : Int) else 0) ∧
      coolingBand = (if applied.inPair = true then (s.cfg.hb : Int) else 0) ∧
      economyBand = (if applied = .economize then (s.cfg.hb : Int) else 0) ∧
      (t.engine.regime = .heating →
        (s.cfg.dTrec - recoveryBand ≤ rt - p.t → t.engine.candidate = .recover) ∧
        (rt - p.t < s.cfg.dTrec - recoveryBand → t.engine.candidate = .bypass)) ∧
      (t.engine.regime = .cooling →
        (p.h ≤ enthalpy rt rw - s.cfg.me + economyBand → p.t ≤ rt - 10 → s.cfg.tlow ≤ p.t →
          t.engine.candidate = .economize) ∧
        (enthalpy rt rw - s.cfg.me + economyBand < p.h ∨ rt - 10 < p.t ∨ p.t < s.cfg.tlow →
          (enthalpy rt rw + s.cfg.mr - coolingBand ≤ p.h → t.engine.candidate = .recover) ∧
          (p.h < enthalpy rt rw + s.cfg.mr - coolingBand → t.engine.candidate = .bypass))))

/-- Stage 2 adopts the own share of each budget as the grant in use, 0 for a station that may hold none; only an allocation after the decision, of a
budget whose request has changed, can lower it again (R5, R9, R108). -/
def Obligations.DecisionAdoptsTheShares : Prop :=
  ∀ (order : DecisionOrder) (b : Budget) (s : State), s.engine.decisionTimer.isSome = true →
    ∃ (t : State) (adopted : Nat), exec (.decision order) s = .next t ∧
    adopted = (if s.startUp.lifecycle = .active ∧ s.bus.clash = false then (s.allocator.get b).ownShare else 0) ∧
    t.grant b ≤ adopted ∧
    (t.engine.request b = s.engine.request b → t.allocator.get b = { s.allocator.get b with grant := adopted }) ∧
    (t.engine.request b ≠ s.engine.request b → t.grant b = min adopted (t.allocator.get b).ownShare) ∧
    (t.allocator.get b).value = (s.allocator.get b).value

/-- Stages 1, 6 and 7 of a decision: the count of decisions, the target by R10 and R11, and what is done with it by R12 and R13: nothing but a
cancellation when it is applied, nothing while dwell holds, a heavy change handed to the stagger with its INTENT, any other applied at once with the
count 0 (R4, R10 to R13, R117, R124). An applied ECONOMIZE whose grant fails the hold test at stage 5, or at the allocation after the decision, is
forced to BYPASS there (R19). The mode and the count are those a judgement taken first leaves, which forces ECONOMIZE to BYPASS when it makes the
outdoor damper FAULT (R21, R147). -/
def Obligations.DecisionActsOnItsTarget : Prop :=
  ∀ (order : DecisionOrder) (s : State), s.engine.decisionTimer.isSome = true → 0 < s.cfg.dwell →
    ∃ (t : State) (judged : Bool) (applied : Mode) (wheel : Wheel) (stagger : Stagger) (n useful adopted : Nat),
    exec (.decision order) s = .next t ∧
    (judged = true ↔ order = .judgementFirst ∧ s.engine.applied = .economize ∧
      t.output.outdoor.outcome ≠ s.output.outdoor.outcome) ∧
    applied = (if judged = true then .bypass else s.engine.applied) ∧
    wheel = (if judged = true ∧ s.output.wheel ≠ .stalled then .stopped else s.output.wheel) ∧
    stagger = (if judged = true ∧ s.stagger.pending ≠ none then idleStagger else s.stagger) ∧
    n = (if judged = true then 1 else min 255 (s.engine.dwell + 1)) ∧
    useful = max 1 (s.cfg.minUseful * t.engine.reliefRequest / 100) ∧
    adopted = (if s.startUp.lifecycle = .active ∧ s.bus.clash = false then s.allocator.relief.ownShare else 0) ∧
    (∃ (available recovers : Bool) (target : Target) (same : Bool) (heavy : Option ChangeKind),
      (available = true ↔ s.startUp.lifecycle = .active ∧ useful ≤ adopted ∧
        (match order with
         | .judgementFirst => t.output.outdoor.outcome
         | .stagesFirst => s.output.outdoor.outcome) ≠ .fault) ∧
      (recovers = true ↔ ∃ rt ∈ s.reading .retT, ∃ rw ∈ s.reading .retW, ∃ p ∈ s.reconciler.reference.point,
        enthalpy rt rw + s.cfg.mr - (if applied.inPair = true then (s.cfg.hb : Int) else 0) ≤ p.h) ∧
      target = (if s.engine.forceBypass.isSome = true then .bypass
        else if t.engine.candidate = .economize ∧ available = true then .economize
        else if (t.engine.candidate = .recover ∨ (t.engine.candidate = .economize ∧ recovers = true)) ∧
          s.output.wheel ≠ .stalled then .recover
        else .bypass) ∧
      (same = true ↔ (target = .bypass ∧ applied = .bypass) ∨ (target = .economize ∧ applied = .economize) ∨
        (target = .recover ∧ (applied = .recover ∨ applied = .frost))) ∧
      heavy = (if target = .economize then some .econOpen
        else if target = .recover ∧ wheel = .stopped then some .wheelStart else none) ∧
      -- a decision that finds another mode than ECONOMIZE applied
      (applied ≠ .economize → t.engine.target = target ∧ t.engine.applied ≠ .economize ∧
        (same = true →
          t.stagger.pending = none ∧ t.engine.dwell = n ∧ t.engine.applied.inPair = applied.inPair) ∧
        (same = false → n < s.cfg.dwell →
          t.stagger = stagger ∧ t.engine.dwell = n ∧ t.engine.applied.inPair = applied.inPair) ∧
        (same = false → s.cfg.dwell ≤ n → ∀ k ∈ heavy,
          t.engine.dwell = n ∧ t.engine.applied.inPair = applied.inPair ∧
          (∀ p ∈ stagger.pending, p.kind = k → t.stagger = stagger) ∧
          (stagger.pending.any (fun p => decide (p.kind = k)) = false →
            t.stagger = { idleStagger with
              pending := some {
                kind := k, key := (stagger.pending.map Pending.key).getD (ownKey s), phase := .queued,
                resendUsed := false } } ∧
            t.bus.intentSlot =
              some (buildFrame .intent s.startUp.address (intentBody k s.cfg.riserGroup s.cfg.height)))) ∧
        (same = false → s.cfg.dwell ≤ n → heavy = none →
          t.stagger.pending = none ∧ t.engine.dwell = 0 ∧ t.engine.applied.inPair = target.mode.inPair)) ∧
      -- a decision that finds ECONOMIZE applied, and does not make the outdoor damper FAULT after its stages
      (applied = .economize → t.output.outdoor.outcome = s.output.outdoor.outcome →
        (adopted < useful →
          t.engine.applied = .bypass ∧ t.engine.dwell = 0 ∧ t.engine.target = target ∧ t.stagger.pending = none) ∧
        (useful ≤ adopted → same = false → s.cfg.dwell ≤ n → heavy = none →
          t.engine.applied ≠ .economize ∧ t.engine.applied.inPair = target.mode.inPair ∧ t.engine.dwell = 0 ∧
          t.engine.target = target ∧ t.stagger.pending = none) ∧
        (useful ≤ adopted → same = true ∨ n < s.cfg.dwell ∨ heavy ≠ none →
          (t.grant .relief < useful →
            t.engine.applied = .bypass ∧ t.engine.target = .bypass ∧ t.engine.dwell = 0 ∧ t.stagger.pending = none) ∧
          (useful ≤ t.grant .relief → t.engine.applied = .economize ∧ t.engine.target = target ∧ t.engine.dwell = n ∧
            (same = true → t.stagger.pending = none) ∧
            (same = false → n < s.cfg.dwell → t.stagger = s.stagger) ∧
            (same = false → s.cfg.dwell ≤ n →
              ∃ p, t.stagger.pending = some p ∧ p.kind = .wheelStart ∧
                (∀ p' ∈ s.stagger.pending, p'.kind = .wheelStart → p = p'))))))

/-- Stage 8. In BYPASS and ECONOMIZE the speed target is the base speed. A recovery pair outside HEATING is RECOVER at the base speed; in HEATING the
table of R16 with an EXH_T average, and the cap of R17 without, act on the speed target and the member that stood, or on RECOVER at the base speed
when stage 7 has just entered it (R15 to R17). The dwell count only counts the decision, or is 0 after an entry. -/
def Obligations.FrostRulesSetSpeedAndMember : Prop :=
  ∀ (order : DecisionOrder) (s : State), s.engine.decisionTimer.isSome = true →
    ∃ (t : State) (before : Mode) (speed : Nat), exec (.decision order) s = .next t ∧
    before = (if s.engine.applied.inPair = true then s.engine.applied else .recover) ∧
    speed = (if s.engine.applied.inPair = true then s.engine.speedTarget else t.engine.baseSpeed) ∧
    (t.engine.applied.inPair = false → t.engine.speedTarget = t.engine.baseSpeed) ∧
    (t.engine.applied.inPair = true →
    t.engine.dwell = (if s.engine.applied.inPair = true then min 255 (s.engine.dwell + 1) else 0) ∧
    (t.engine.regime ≠ .heating → t.engine.applied = .recover ∧ t.engine.speedTarget = t.engine.baseSpeed) ∧
    (t.engine.regime = .heating → ∀ x ∈ s.reading .exhT,
      (x ≤ s.cfg.tf → t.engine.applied = .frost ∧ t.engine.speedTarget = max s.cfg.smin (speed * 3 / 4)) ∧
      (s.cfg.tf < x → x < s.cfg.tf + s.cfg.frostBand → t.engine.applied = before ∧
        t.engine.speedTarget = min speed t.engine.baseSpeed) ∧
      (s.cfg.tf < x → s.cfg.tf + s.cfg.frostBand ≤ x → before = .recover →
        t.engine.applied = .recover ∧ t.engine.speedTarget = t.engine.baseSpeed) ∧
      (s.cfg.tf < x → s.cfg.tf + s.cfg.frostBand ≤ x → before = .frost →
        t.engine.speedTarget = min t.engine.baseSpeed (speed + 100) ∧
        (t.engine.speedTarget = t.engine.baseSpeed → t.engine.applied = .recover) ∧
        (t.engine.speedTarget ≠ t.engine.baseSpeed → t.engine.applied = .frost))) ∧
    (t.engine.regime = .heating → s.reading .exhT = none →
      ((∀ p ∈ s.reconciler.reference.point, p.t ≤ -50) →
        t.engine.speedTarget = min t.engine.baseSpeed 500 ∧
        (500 < t.engine.baseSpeed → t.engine.applied = .frost) ∧
        (t.engine.baseSpeed ≤ 500 → t.engine.applied = .recover)) ∧
      (∀ p ∈ s.reconciler.reference.point, -50 < p.t →
        t.engine.speedTarget = t.engine.baseSpeed ∧ t.engine.applied = .recover)))

/-- The mismatch judgement of a decision timer expiry, in either order: a damper that is settling, or whose outcome is UNTESTED or FAULT, or whose
feedback is not VALID, keeps count and outcome; an agreement clears the count; a mismatch raises it; the third makes the outcome FAULT, with the count
0, the sticky DAMPER flag when no damper was in FAULT, and an ECONOMIZE ended for the outdoor damper (R21, R144, R146, R147). What is compared is what
stands as the expiry is taken (the model's reading, log 16). -/
def Obligations.DecisionJudgesTheDampers : Prop :=
  ∀ (order : DecisionOrder) (d : Damper) (s : State), s.engine.decisionTimer.isSome = true →
    ∃ t, exec (.decision order) s = .next t ∧
    ((s.output.damper d).settle.isSome = true ∨ (s.output.damper d).outcome = .untested ∨
        (s.output.damper d).outcome = .fault ∨ s.reading (feedbackOf d) = none →
      (t.output.damper d).mismatches = (s.output.damper d).mismatches ∧
      (t.output.damper d).outcome = (s.output.damper d).outcome) ∧
    (∀ v fb : Int, s.reading (feedbackOf d) = some v → (s.output.damper d).settle = none →
      ((s.output.damper d).outcome = .normal ∧ fb = v ∨ (s.output.damper d).outcome = .reversed ∧ fb = 1000 - v) →
      ((((s.output.damper d).command : Int) - fb).natAbs ≤ 200 →
        (t.output.damper d).mismatches = 0 ∧ (t.output.damper d).outcome = (s.output.damper d).outcome) ∧
      (200 < (((s.output.damper d).command : Int) - fb).natAbs → (s.output.damper d).mismatches < 2 →
        (t.output.damper d).mismatches = (s.output.damper d).mismatches + 1 ∧
        (t.output.damper d).outcome = (s.output.damper d).outcome) ∧
      (200 < (((s.output.damper d).command : Int) - fb).natAbs → 2 ≤ (s.output.damper d).mismatches →
        (t.output.damper d).mismatches = 0 ∧ (t.output.damper d).outcome = .fault ∧
        (s.output.anyDamperFault = false → t.responder.sticky.damper = true) ∧
        (d = .outdoor → t.engine.applied ≠ .economize)))

/-- INTENT_WINDOW_EXPIRY: the slot is the number of lower keys in the list, at most 15. Slot 0 expires at once, else the slot timer runs with slot ×
the stagger interval and the list is emptied (R122). SLOT_TIMER_EXPIRY ends the pending transition: an ECON_OPEN that passes the test of R18 applies
ECONOMIZE and a WHEEL_START whose wheel is not STALLED applies RECOVER or FROST, with the count 0 and the speed target stage 8 gives a RECOVER just
entered, from the recorded regime and base speed (R15 to R18); one that fails changes nothing else (R18, R123). -/
def Obligations.SlotsComeInOrderOfKeyAndComplete : Prop :=
  (∀ (p : Pending) (s : State), s.stagger.pending = some p → s.stagger.windowTimer.isSome = true →
    ∃ k : Nat, k = min 15 (s.stagger.intents.countP fun x => x.lower p.key) ∧
    (k = 0 → exec .intentWindowExpiry s =
      exec .slotTimerExpiry { s with stagger := { s.stagger with slotTimer := some 0 } }) ∧
    (k ≠ 0 → exec .intentWindowExpiry s = .next { s with
      stagger := {
        pending := some { p with phase := .slotWait }, intents := [], windowTimer := none
        slotTimer := some (secs (k * s.cfg.staggerInterval)), backoff := none } })) ∧
  (∀ (p : Pending) (s : State), s.stagger.pending = some p → s.stagger.slotTimer.isSome = true →
    (p.kind = .econOpen → s.startUp.lifecycle ≠ .active ∨ s.output.outdoor.outcome = .fault ∨
        s.grant .relief < max 1 (s.cfg.minUseful * s.engine.reliefRequest / 100) →
      exec .slotTimerExpiry s = .next { s with stagger := idleStagger }) ∧
    (p.kind = .wheelStart → s.output.wheel = .stalled →
      exec .slotTimerExpiry s = .next { s with stagger := idleStagger }) ∧
    (p.kind = .econOpen → s.startUp.lifecycle = .active → s.output.outdoor.outcome ≠ .fault →
      max 1 (s.cfg.minUseful * s.engine.reliefRequest / 100) ≤ s.grant .relief →
      ∃ t, exec .slotTimerExpiry s = .next t ∧
      t.engine = { s.engine with applied := .economize, dwell := 0 } ∧ t.stagger = idleStagger ∧
      (s.engine.applied ≠ .economize → t.output.wheel ≠ .running ∧ t.output.bypass.command = 1000 ∧
        t.output.outdoor.command =
          min s.output.wanted (s.cfg.fmin + s.grant .relief * 1000 / s.cfg.qs)) ∧
      t.startUp = s.startUp ∧ t.scanner = s.scanner ∧ t.allocator = s.allocator ∧ t.table = s.table ∧ t.bus = s.bus ∧
      t.fan = s.fan ∧ t.counters = s.counters ∧ t.output.wfcPos = s.output.wfcPos) ∧
    (p.kind = .wheelStart → s.output.wheel ≠ .stalled →
      ∃ t, exec .slotTimerExpiry s = .next t ∧
      t.engine.applied.inPair = true ∧ t.engine.dwell = 0 ∧ t.engine.target = s.engine.target ∧
      t.engine.baseSpeed = s.engine.baseSpeed ∧ t.stagger = idleStagger ∧
      t.engine.regime = s.engine.regime ∧
      (s.engine.regime ≠ .heating → t.engine.applied = .recover ∧ t.engine.speedTarget = s.engine.baseSpeed) ∧
      (s.engine.regime = .heating → ∀ x ∈ s.reading .exhT,
        (x ≤ s.cfg.tf → t.engine.applied = .frost ∧
          t.engine.speedTarget = max s.cfg.smin (s.engine.baseSpeed * 3 / 4)) ∧
        (s.cfg.tf < x → t.engine.applied = .recover ∧ t.engine.speedTarget = s.engine.baseSpeed)) ∧
      (s.engine.regime = .heating → s.reading .exhT = none →
        ((∀ p ∈ s.reconciler.reference.point, p.t ≤ -50) → t.engine.speedTarget = min s.engine.baseSpeed 500 ∧
          t.engine.applied = if 500 < s.engine.baseSpeed then .frost else .recover) ∧
        (∀ p ∈ s.reconciler.reference.point, -50 < p.t →
          t.engine.speedTarget = s.engine.baseSpeed ∧ t.engine.applied = .recover)) ∧
      (s.engine.applied ≠ .recover → s.output.wheel = .stopped ∨ s.output.wheel = .purging →
        t.output.wheel = .running ∧ t.output.wheelRun = true ∧ t.output.wheelSpd = t.engine.speedTarget ∧
        t.output.idle = none ∧ t.output.purge = none ∧ t.rotation.pulses = 0 ∧ t.rotation.zeroRun = 0 ∧
        (s.cfg.pulsesPerRev ≠ 0 → t.rotation.settling = true ∧ t.rotation.gate = some (secs s.cfg.gateWindow)) ∧
        (s.startUp.lifecycle.inService = true → t.output.bypass.command = 0 ∧ t.output.outdoor.command = s.cfg.fmin)) ∧
      t.startUp = s.startUp ∧ t.scanner = s.scanner ∧ t.allocator = s.allocator ∧ t.table = s.table ∧ t.bus = s.bus ∧
      t.fan = s.fan ∧ t.counters = s.counters ∧ t.output.wfcPos = s.output.wfcPos)) ∧
  (∀ s : State, s.stagger.pending = none →
    exec .intentWindowExpiry s = .next s ∧ exec .slotTimerExpiry s = .next s)

/-! ### Peers (spec/05, spec/07) -/

/-- The three expiries of a silence timer: LIVE to COASTING at 2 × Pp, COASTING to LOST at 6 × Pp, LOST freed at 30 × Pp. Every other record and every
other field stays; LONE does not come back (R84 to R87, R91). A record that is not in the state an expiry is for, or whose silence an accepted
ANNOUNCE has restarted, is left alone (R88, R89). The clock that says so is the model's choice, and the elapsed silence left is at least the point
(log 5). -/
def Obligations.SilenceMovesOneRecord : Prop :=
  (∀ (expiry : SilenceExpiry) (order : ReportOrder) (r : PeerRecord) (s : State), tableSound s →
    r ∈ s.table.records → r.address = expiry.peer.toNat →
    (r.state = .live → 2 * (max 5 (min 60 r.said.period)) * 1000 ≤ max r.silence expiry.elapsed →
      ∃ t, exec (.silenceCoasting expiry order) s = .next t ∧
      t.table = { s.table with
        records := s.table.records.map fun x =>
          if x.address = r.address then
            { r with state := .coasting, silence := max r.silence (2 * (max 5 (min 60 r.said.period)) * 1000) }
          else x } ∧
      t.startUp = s.startUp ∧ t.scanner = s.scanner ∧ t.counters = s.counters ∧ t.freeDraws = s.freeDraws ∧
      t.bus.lastHeard = s.bus.lastHeard) ∧
    (r.state = .coasting → 6 * (max 5 (min 60 r.said.period)) * 1000 ≤ max r.silence expiry.elapsed →
      ∃ t, exec (.silenceLost expiry) s = .next t ∧
      t.table = { s.table with
        records := s.table.records.map fun x =>
          if x.address = r.address then
            { r with state := .lost, silence := max r.silence (6 * (max 5 (min 60 r.said.period)) * 1000) }
          else x } ∧
      t.startUp = s.startUp ∧ t.scanner = s.scanner ∧ t.reconciler = s.reconciler ∧ t.counters = s.counters ∧
      t.freeDraws = s.freeDraws) ∧
    (r.state = .lost → 30 * (max 5 (min 60 r.said.period)) * 1000 ≤ max r.silence expiry.elapsed →
      ∃ t, exec (.silenceFreed expiry order) s = .next t ∧
      t.table = { s.table with records := s.table.records.filter fun x => decide (x.address ≠ r.address) } ∧
      t.startUp = s.startUp ∧ t.scanner = s.scanner ∧ t.counters = s.counters ∧ t.freeDraws = s.freeDraws)) ∧
  (∀ (expiry : SilenceExpiry) (order : ReportOrder) (s : State),
    ((∀ r ∈ s.table.records, r.address = expiry.peer.toNat →
        r.state ≠ .live ∨ max r.silence expiry.elapsed < 2 * (max 5 (min 60 r.said.period)) * 1000) →
      exec (.silenceCoasting expiry order) s = .next s) ∧
    ((∀ r ∈ s.table.records, r.address = expiry.peer.toNat →
        r.state ≠ .coasting ∨ max r.silence expiry.elapsed < 6 * (max 5 (min 60 r.said.period)) * 1000) →
      exec (.silenceLost expiry) s = .next s) ∧
    ((∀ r ∈ s.table.records, r.address = expiry.peer.toNat →
        r.state ≠ .lost ∨ max r.silence expiry.elapsed < 30 * (max 5 (min 60 r.said.period)) * 1000) →
      exec (.silenceFreed expiry order) s = .next s))

/-- A valid ANNOUNCE of another station for a record held: a duplicate changes nothing of table, allocator or reconciler; any other is accepted whole,
LIVE, with membership afresh and the silence from 0, a gap counted at the record and at the station when the record is not LOST and the sequence is
not the successor; an acceptance recomputes the reference (R72, R73, R76 to R79). -/
def Obligations.AnnounceUpdatesItsRecord : Prop :=
  ∀ (f : Frame) (order : ReportOrder) (r : PeerRecord) (s : State), canReceive s = true → frameWhole f = true →
    frameValid f = true → frameKind f = some .announce → frameSource f ≠ s.startUp.address → frameSource f ≠ 0 →
    s.startUp.lifecycle ≠ .config → s.startUp.lifecycle ≠ .commission → tableSound s → r ∈ s.table.records →
    r.address = frameSource f → ∃ (t : State) (a : Announcement) (gap : Bool), exec (.announce f order) s = .next t ∧
    a = announcementOf f ∧
    (gap = true ↔ r.state ≠ .lost ∧ a.sequence ≠ r.said.sequence ∧ a.sequence ≠ (r.said.sequence + 1) % 256) ∧
    t.bus.receiver = .waitIdle ∧ t.bus.heard = true ∧ t.scanner = s.scanner ∧ t.freeDraws = s.freeDraws ∧
    t.startUp.lifecycle = (if s.startUp.lifecycle = .isolated then .joining else s.startUp.lifecycle) ∧
    (r.state ≠ .lost → a.sequence = r.said.sequence →
      t.table = s.table ∧ t.allocator = s.allocator ∧ t.reconciler = s.reconciler ∧ t.counters = s.counters ∧
      t.engine = s.engine) ∧
    (r.state = .lost ∨ a.sequence ≠ r.said.sequence →
      t.table = { s.table with
        records := s.table.records.map fun x =>
          if x.address = r.address then {
            address := r.address
            sameRiser := decide (s.cfg.riserGroup ≠ 0 ∧ a.riserGroup = s.cfg.riserGroup)
            samePlant := decide (s.cfg.plantGroup ≠ 0 ∧ a.plantGroup = s.cfg.plantGroup)
            state := .live, silence := 0
            gapCount := if gap = true then min 255 (r.gapCount + 1) else r.gapCount
            said := { a with height := min 600 a.height } }
          else x } ∧
      t.counters = { s.counters with
        seqGaps := if gap = true then min 65535 (s.counters.seqGaps + 1) else s.counters.seqGaps } ∧
      referenceFollows s t)

/-- A valid ANNOUNCE from an address without a record: inserted while the table has room, which ends LONE; at a full table refused and counted for an
outdoor-only newcomer, and for a member when no record may go; else in place of the LOST record of longest silence, or of the farthest outdoor-only
record, of the higher address between equals (R80 to R83, R91). -/
def Obligations.AnnounceAdmitsEvictsOrIsRefused : Prop :=
  ∀ (f : Frame) (order : ReportOrder) (s : State), canReceive s = true → frameWhole f = true → frameValid f = true →
    frameKind f = some .announce → frameSource f ≠ s.startUp.address → frameSource f ≠ 0 →
    s.startUp.lifecycle ≠ .config → s.startUp.lifecycle ≠ .commission → tableSound s →
    (∀ r ∈ s.table.records, r.address ≠ frameSource f) → ∃ (t : State) (a : Announcement) (new : PeerRecord),
    exec (.announce f order) s = .next t ∧ a = announcementOf f ∧
    new = {
      address := frameSource f
      sameRiser := decide (s.cfg.riserGroup ≠ 0 ∧ a.riserGroup = s.cfg.riserGroup)
      samePlant := decide (s.cfg.plantGroup ≠ 0 ∧ a.plantGroup = s.cfg.plantGroup)
      state := .live, silence := 0, gapCount := 0, said := { a with height := min 600 a.height } } ∧
    (s.table.records.length < 32 →
      (∀ x, x ∈ t.table.records ↔ x = new ∨ x ∈ s.table.records) ∧ t.table.lone = false ∧ t.counters = s.counters ∧
      referenceFollows s t) ∧
    (s.table.records.length = 32 → new.outdoorOnly = true →
      t.table = s.table ∧ t.allocator = s.allocator ∧ t.reconciler = s.reconciler ∧
      t.counters = { s.counters with tableRefusals := min 65535 (s.counters.tableRefusals + 1) }) ∧
    (s.table.records.length = 32 → new.outdoorOnly = false → (∀ r ∈ s.table.records, r.state ≠ .lost) →
      (∀ r ∈ s.table.records, r.outdoorOnly = false) →
      t.table = s.table ∧ t.allocator = s.allocator ∧ t.reconciler = s.reconciler ∧
      t.counters = { s.counters with tableRefusals := min 65535 (s.counters.tableRefusals + 1) }) ∧
    (s.table.records.length = 32 → new.outdoorOnly = false → (∃ r ∈ s.table.records, r.state = .lost) →
      ∃ v ∈ s.table.records, v.state = .lost ∧
        (∀ u ∈ s.table.records, u.state = .lost →
          u.silence < v.silence ∨ (u.silence = v.silence ∧ u.address ≤ v.address)) ∧
        (∀ x, x ∈ t.table.records ↔ x = new ∨ (x ∈ s.table.records ∧ x ≠ v)) ∧ t.table.lone = false ∧
        t.counters = s.counters ∧ referenceFollows s t) ∧
    (s.table.records.length = 32 → new.outdoorOnly = false → (∀ r ∈ s.table.records, r.state ≠ .lost) →
      (∃ r ∈ s.table.records, r.outdoorOnly = true) →
      ∃ v ∈ s.table.records, v.outdoorOnly = true ∧
        (∀ u ∈ s.table.records, u.outdoorOnly = true →
          ((u.said.height : Int) - s.cfg.height).natAbs < ((v.said.height : Int) - s.cfg.height).natAbs ∨
          (((u.said.height : Int) - s.cfg.height).natAbs = ((v.said.height : Int) - s.cfg.height).natAbs ∧
            u.address ≤ v.address)) ∧
        (∀ x, x ∈ t.table.records ↔ x = new ∨ (x ∈ s.table.records ∧ x ≠ v)) ∧ t.table.lone = false ∧
        t.counters = s.counters ∧ referenceFollows s t)

/-- A valid INTENT of another station: in WINDOW, of the own riser group when that is not 0, its key enters the list in place of one of its address; a
seventeenth key is dropped when it is the largest, and else drives the largest out; otherwise the list stays (R120, R121). -/
def Obligations.IntentEntersTheList : Prop :=
  ∀ (f : Frame) (s : State), canReceive s = true → frameWhole f = true → frameValid f = true →
    frameKind f = some .intent → frameSource f ≠ s.startUp.address → intentsSound s →
    ∃ (t : State) (k : Key), exec (.intent f) s = .next t ∧
    k = { height := min 600 (halfAt f 7), address := frameSource f } ∧
    t.bus.receiver = .waitIdle ∧ t.bus.heard = true ∧ t.table = s.table ∧ t.counters = s.counters ∧
    t.engine = s.engine ∧ t.reconciler = s.reconciler ∧ t.scanner = s.scanner ∧
    t.stagger = { s.stagger with intents := t.stagger.intents } ∧
    (inWindow s = false ∨ s.cfg.riserGroup = 0 ∨ byteAt f 6 ≠ s.cfg.riserGroup →
      t.stagger.intents = s.stagger.intents) ∧
    (inWindow s = true → s.cfg.riserGroup ≠ 0 → byteAt f 6 = s.cfg.riserGroup →
      ((∃ x ∈ s.stagger.intents, x.address = k.address) ∨ s.stagger.intents.length < 16 →
        ∀ x, x ∈ t.stagger.intents ↔ x = k ∨ (x ∈ s.stagger.intents ∧ x.address ≠ k.address)) ∧
      (s.stagger.intents.length = 16 → (∀ x ∈ s.stagger.intents, x.address ≠ k.address) →
        ((∀ x ∈ s.stagger.intents, x.lower k = true) → t.stagger.intents = s.stagger.intents) ∧
        (∀ m ∈ s.stagger.intents.getLast?, k.lower m = true →
          ∀ x, x ∈ t.stagger.intents ↔ x = k ∨ (x ∈ s.stagger.intents ∧ x ≠ m))))

/-! ### The receiver and the line (spec/09) -/

/-- Every frame command alike: a valid REPLY, or a QUERY to another address, only sets the heard mark and restarts the last-heard timer where R169
restarts it, and takes an ISOLATED station to JOINING with a fresh count (R159, R169, R170). A whole frame that fails a check is counted and goes no
further, and the checks are the CRC, a kind that is not reserved, its class, its length, and the flag or kind in its body (R158). While the receiver
takes no frame nothing happens (the model's reading, log 9). -/
def Obligations.FramesAreHeardOrDiscarded : Prop :=
  (∀ f : Frame, frameValid f = true ↔
    (crc16 (f.take 3 ++ [0, 0] ++ f.drop 5)).toNat = halfAt f 3 ∧
    ((byteAt f 1 / 16 = 1 ∧ byteAt f 0 / 64 = 0 ∧ byteAt f 2 = 4 ∧ (byteAt f 5 = 1 ∨ byteAt f 5 = 2)) ∨
     (byteAt f 1 / 16 = 2 ∧ byteAt f 0 / 64 = 1 ∧ byteAt f 2 = 24 ∧ byteAt f 6 / 64 ≠ 3) ∨
     (byteAt f 1 / 16 = 3 ∧ byteAt f 0 / 64 = 3 ∧ byteAt f 2 = 4) ∨
     (byteAt f 1 / 16 = 4 ∧ byteAt f 0 / 64 = 2 ∧ 3 ≤ byteAt f 2 ∧ byteAt f 2 ≤ 48))) ∧
  (∀ (c : Instr) (f : Frame) (order : ReportOrder) (s : State),
    c = .announce f order ∨ c = .intent f ∨ c = .replyReceived f ∨ c = .queryForOtherStation f →
    canReceive s = true → frameWhole f = true → frameValid f = true → frameSource f ≠ s.startUp.address →
    frameKind f = some .reply ∨ (frameKind f = some .query ∧ byteAt f 5 ≠ s.startUp.address) →
    ∃ lastHeard : Timer,
    lastHeard = (if s.startUp.lifecycle.hearing = true then some (secs (5 * s.cfg.announcePeriod)) else s.bus.lastHeard) ∧
    (s.startUp.lifecycle ≠ .isolated →
      exec c s = .next { s with
        bus := { s.bus with receiver := .waitIdle, remnant := false, heard := true, lastHeard := lastHeard } }) ∧
    (s.startUp.lifecycle = .isolated → ∃ t, exec c s = .next t ∧
      t.startUp = { s.startUp with lifecycle := .joining, ownCount := 0 } ∧
      t.bus = { s.bus with receiver := .waitIdle, remnant := false, heard := true, lastHeard := lastHeard } ∧
      (s.cfg.fanOwner = true → s.bus.stuck = false → t.fan.suspended = false) ∧
      (s.cfg.fanOwner = true → s.bus.stuck = true → t.fan.suspended = true) ∧
      t.responder.sticky = s.responder.sticky ∧ t.engine = s.engine ∧ t.allocator = s.allocator ∧
      t.table = s.table ∧ t.output = s.output ∧ t.scanner = s.scanner ∧ t.reconciler = s.reconciler ∧
      t.rotation = s.rotation ∧ t.stagger = s.stagger ∧ t.counters = s.counters)) ∧
  (∀ (c : Instr) (f : Frame) (order : ReportOrder) (s : State),
    c = .announce f order ∨ c = .intent f ∨ c = .replyReceived f ∨ c = .queryForOtherStation f →
    canReceive s = true → frameWhole f = true → frameValid f = false →
    exec c s = .next { s with
      bus := { s.bus with receiver := .waitIdle, remnant := false }
      counters := { s.counters with crcErrors := min 65535 (s.counters.crcErrors + 1) } }) ∧
  (∀ (c : Instr) (f : Frame) (order : ReportOrder) (s : State),
    c = .announce f order ∨ c = .intent f ∨ c = .replyReceived f ∨ c = .queryForOtherStation f →
    s.bus.transmitter ≠ .quiet ∨ s.bus.receiver = .off ∨ s.bus.receiver = .waitIdle → exec c s = .next s)

/-- The own address heard in a valid frame of any kind, after CONFIG and outside SERVICE: ADDRESS_CLASH with its timer at 10 × P, handed to no block,
no heard mark; a clash that is new sets its sticky flag and zeroes both grants and shares (R109, R167). CLASH_TIMER_EXPIRY: absent, with both
allocations made and no grant raised (R100, R168), and in ACTIVE both requests in force and, with a sound table, own shares and grants left at 0
(R110; the model's choice where none fell during the clash, log 26). It happens when no time is left on the timer, so not after a clashing frame taken
first (R168; the count that says so is the model's, log 5). The allocations at its end are made in every lifecycle state (the model's reading, log
18). -/
def Obligations.OwnAddressHeardIsAClash : Prop :=
  (∀ (c : Instr) (f : Frame) (order : ReportOrder) (s : State),
    c = .announce f order ∨ c = .intent f ∨ c = .replyReceived f ∨ c = .queryForOtherStation f →
    canReceive s = true → frameWhole f = true → frameValid f = true → frameSource f = s.startUp.address →
    s.startUp.lifecycle ≠ .config → s.startUp.lifecycle ≠ .service → ∃ t, exec c s = .next t ∧
    t.bus.clash = true ∧ t.bus.clashTimer = some (secs (10 * s.cfg.announcePeriod)) ∧ t.bus.heard = s.bus.heard ∧
    t.bus.lastHeard = s.bus.lastHeard ∧ t.bus.receiver = .waitIdle ∧ t.startUp = s.startUp ∧ t.table = s.table ∧
    t.reconciler = s.reconciler ∧ t.scanner = s.scanner ∧ t.counters = s.counters ∧
    (s.bus.clash = true →
      t = { s with
        bus := { s.bus with
          receiver := .waitIdle, remnant := false, clashTimer := some (secs (10 * s.cfg.announcePeriod)) } }) ∧
    (s.bus.clash = false → tableSound s →
      t.responder.sticky = { s.responder.sticky with addressClash := true } ∧ t.responder.alarm = true ∧
      t.grant .relief = 0 ∧ t.grant .wfc = 0 ∧ t.allocator.relief.ownShare = 0 ∧ t.allocator.wfc.ownShare = 0 ∧
      (s.engine.applied = .economize → 0 < s.grant .relief → t.engine.applied = .bypass))) ∧
  (∀ s : State, s.bus.clashTimer = some 0 → ∃ t, exec .clashTimerExpiry s = .next t ∧
    t.bus.clash = false ∧ t.bus.clashTimer = none ∧ t.startUp = s.startUp ∧ t.table = s.table ∧
    t.responder.sticky = s.responder.sticky ∧ t.counters = s.counters ∧ t.scanner = s.scanner ∧
    t.reconciler = s.reconciler ∧
    (∀ b : Budget, t.grant b ≤ s.grant b ∧
      t.grant b = min (s.grant b) (t.allocator.get b).ownShare ∧
      (t.allocator.get b).participants = divide (s.allocator.get b).value (participantsOf b t)) ∧
    (s.startUp.lifecycle = .active → t.engine.reliefRequest = 0 ∧ t.engine.wfcRequest = 0 ∧
      (tableSound s → ∀ b : Budget, (t.allocator.get b).ownShare = 0 ∧ t.grant b = 0)) ∧
    (s.startUp.lifecycle ≠ .active → ∀ b : Budget, t.engine.request b = s.engine.request b)) ∧
  (∀ s : State, s.bus.clashTimer ≠ some 0 → exec .clashTimerExpiry s = .next s)

/-- START_BIT, FRAMING_ERROR, BAD_LENGTH and LINE_IDLE move the receiver by the table of R154, the rest of a frame the station itself abandoned not
counted (R166). LINE_IDLE also ends BUS_STUCK (R155) and begins the frame of lowest class that may be sent: in service the INTENT, else the ANNOUNCE,
else the older REPLY; in LISTEN the older REPLY (R163, R172). BUS_STUCK becomes present once, with its sticky flag, ALARM and an owner's fan
suspended, and every slot kept (R130, R155). While the station sends, its receiver is COLLECTING (the model's reading, log 8). -/
def Obligations.LineEventsMoveReceiverAndTransmitter : Prop :=
  (∀ s : State, s.bus.transmitter = .quiet →
    (s.bus.receiver = .idle →
      exec .startBit s = .next { s with bus := { s.bus with receiver := .collecting, remnant := false } }) ∧
    (s.bus.receiver ≠ .idle → exec .startBit s = .next s) ∧
    (s.bus.receiver = .collecting → ∀ c : Instr, c = .framingError ∨ c = .badLength →
      exec c s = .next { s with
        bus := { s.bus with receiver := .waitIdle, remnant := false }
        counters := { s.counters with
          crcErrors :=
            if s.bus.remnant = true then s.counters.crcErrors else min 65535 (s.counters.crcErrors + 1) } }) ∧
    (s.bus.receiver ≠ .collecting → exec .framingError s = .next s ∧ exec .badLength s = .next s)) ∧
  (∀ s : State, s.bus.transmitter = .quiet → s.bus.receiver ≠ .off → s.bus.stuck = false →
    ∃ (counters : Counters) (inService : Bool),
    counters = { s.counters with
      crcErrors :=
        if s.bus.receiver = .collecting ∧ s.bus.remnant = false then min 65535 (s.counters.crcErrors + 1)
        else s.counters.crcErrors } ∧
    inService = s.startUp.lifecycle.inService ∧
    (∀ (slot : Slot) (f : Frame),
      (inService = true ∧ slot = .intent ∧ s.bus.intentSlot = some f) ∨
      (inService = true ∧ s.bus.intentSlot = none ∧ slot = .announce ∧ s.bus.announceSlot = some f) ∨
      (inService = true ∧ s.bus.intentSlot = none ∧ s.bus.announceSlot = none ∧ slot = .reply ∧
        s.bus.replySlots.head? = some f) ∨
      (s.startUp.lifecycle = .listen ∧ slot = .reply ∧ s.bus.replySlots.head? = some f) →
      exec .lineIdle s = .next { s with
        bus := { s.bus with
          receiver := .collecting, remnant := false, transmitter := .contending
          onAir := some { slot := slot, frame := f, inSlot := true } }
        counters := counters }) ∧
    ((inService = true ∧ s.bus.intentSlot = none ∧ s.bus.announceSlot = none ∧ s.bus.replySlots = []) ∨
        (inService = false ∧ (s.startUp.lifecycle = .listen → s.bus.replySlots = [])) →
      exec .lineIdle s = .next { s with
        bus := { s.bus with receiver := .idle, remnant := false }, counters := counters })) ∧
  (∀ s : State, s.bus.transmitter = .quiet → s.bus.receiver ≠ .off → s.bus.stuck = true →
    ∃ t, exec .lineIdle s = .next t ∧ t.bus.stuck = false ∧
    (offered s = none → t.bus.receiver = .idle ∧ t.bus.transmitter = .quiet) ∧
    (offered s ≠ none → t.bus.receiver = .collecting ∧ t.bus.transmitter = .contending) ∧
    (s.cfg.fanOwner = true → s.startUp.lifecycle.inService = true → s.startUp.lifecycle ≠ .isolated →
      t.fan.suspended = false) ∧
    t.responder.sticky = s.responder.sticky ∧ t.bus.intentSlot = s.bus.intentSlot ∧
    t.bus.announceSlot = s.bus.announceSlot ∧ t.bus.replySlots = s.bus.replySlots ∧ t.startUp = s.startUp ∧
    t.engine = s.engine ∧ t.table = s.table ∧ t.allocator = s.allocator ∧ t.output = s.output) ∧
  (∀ s : State, s.bus.receiver = .off ∨ s.bus.transmitter ≠ .quiet → exec .lineIdle s = .next s) ∧
  (∀ s : State, s.bus.receiver ≠ .off → s.bus.stuck = false → ∃ t, exec .busStuck s = .next t ∧
    t.bus = { s.bus with stuck := true } ∧ t.responder.sticky = { s.responder.sticky with busStuck := true } ∧
    (s.startUp.lifecycle ≠ .config → t.responder.alarm = true) ∧
    (s.cfg.fanOwner = true → s.startUp.lifecycle.inService = true → t.fan.suspended = true ∧
      t.fan.state = s.fan.state ∧ t.fan.offDelay = s.fan.offDelay) ∧
    (s.cfg.fanOwner = true → s.startUp.lifecycle.inService = true → s.fan.suspended = false →
      (s.cfg.isolationPolicy = .hold → t.fan.reliefRun = s.fan.reliefRun) ∧
      (s.cfg.isolationPolicy = .default → t.fan.reliefRun = s.cfg.fanDefaultOn)) ∧
    t.startUp = s.startUp ∧ t.scanner = s.scanner ∧ t.rotation = s.rotation ∧ t.reconciler = s.reconciler ∧
    t.engine = s.engine ∧ t.table = s.table ∧ t.allocator = s.allocator ∧ t.stagger = s.stagger ∧
    t.output = s.output ∧ t.counters = s.counters) ∧
  (∀ s : State, s.bus.receiver = .off ∨ s.bus.stuck = true → exec .busStuck s = .next s)

/-- ANNOUNCEMENT_TIMER_EXPIRY: the timer restarts with P, the sequence counter rises modulo 256, and the snapshot of R160 takes the ANNOUNCE slot, one
in transmission going on without it; on an idle line it begins at once, unless an INTENT waits (R160, R162, R163). That an ANNOUNCE the station is
CONTENDING with goes on as one in transmission does is the model's choice (log 27). -/
def Obligations.AnnouncementSnapshotsTheStation : Prop :=
  (∀ s : State, s.bus.announceTimer.isSome = true → ∃ (t : State) (a : Announcement) (f : Frame),
    exec .announcementTimerExpiry s = .next t ∧
    a.sequence = (s.bus.sequence + 1) % 256 ∧
    (s.startUp.lifecycle = .joining → a.flag = .joining) ∧ (s.startUp.lifecycle = .active → a.flag = .active) ∧
    (s.startUp.lifecycle = .isolated → a.flag = .isolated) ∧ a.mode = s.engine.applied ∧
    a.riserGroup = s.cfg.riserGroup ∧ a.plantGroup = s.cfg.plantGroup ∧ a.height = s.cfg.height ∧
    a.period = s.cfg.announcePeriod ∧
    (s.reading .outT = none ∨ s.reading .outW = none → a.observation = none) ∧
    (∀ x y : Int, s.reading .outT = some x → s.reading .outW = some y →
      a.observation = some { t := x, w := y.toNat }) ∧
    a.relief = { request := s.engine.reliefRequest, cap := s.engine.reliefCap, inUse := s.grant .relief } ∧
    a.wfc = { request := s.engine.wfcRequest, cap := s.engine.wfcCap, inUse := s.grant .wfc } ∧
    a.faults = (faultsPresent s).toByte ∧ f = buildFrame .announce s.startUp.address (announceBody a) ∧
    t.bus.announceSlot = some f ∧ t.bus.announceTimer = some (secs s.cfg.announcePeriod) ∧
    t.bus.sequence = (s.bus.sequence + 1) % 256 ∧ t.bus.intentSlot = s.bus.intentSlot ∧
    t.bus.replySlots = s.bus.replySlots ∧
    (s.bus.receiver = .idle → s.bus.transmitter = .quiet → s.bus.stuck = false →
      s.startUp.lifecycle.inService = true → s.bus.intentSlot = none →
      t.bus.transmitter = .contending ∧ t.bus.receiver = .collecting ∧
      t.bus.onAir = some { slot := .announce, frame := f, inSlot := true }) ∧
    (s.bus.receiver ≠ .idle ∨ s.bus.transmitter ≠ .quiet ∨ s.bus.stuck = true →
      t.bus.transmitter = s.bus.transmitter ∧ t.bus.receiver = s.bus.receiver ∧
      (∀ x ∈ s.bus.onAir, x.slot = .announce → t.bus.onAir = some { x with inSlot := false })) ∧
    t = { s with bus := t.bus }) ∧
  (∀ s : State, s.bus.announceTimer = none → exec .announcementTimerExpiry s = .next s)

/-! ### Service requests (spec/11) -/

/-- The three reading queries, taken in an answering state with a REPLY slot free: a REPLY of result DONE with the data of R188 takes the free slot
behind an older one and nothing else changes but what hearing the frame does (an RDPR index that names no record is answered NO_ENTRY, without data).
The data are the 43, 16 and 32 bytes R188 and R93 list, where a field of the status record holds no free value (logs 10 to 12). -/
def Obligations.ReadingQueriesAreAnswered : Prop :=
  (∀ (source : Addr) (argument : Half) (s : State), canReceive s = true → source.toNat ≠ s.startUp.address →
    s.startUp.lifecycle.answers = true → s.bus.replySlots.length < 2 → ∃ h : State,
    h = hearStation { s with bus := { s.bus with receiver := .waitIdle, remnant := false } } ∧
    exec (.rdst source argument) s = .next { h with
      freeDraws := s.freeDraws + 1
      bus := { h.bus with
        replySlots := s.bus.replySlots ++
          [buildFrame .reply s.startUp.address (replyBody source.toNat 1 0 (statusRecord h))] } } ∧
    exec (.rdct source argument) s = .next { h with
      bus := { h.bus with
        replySlots := s.bus.replySlots ++
          [buildFrame .reply s.startUp.address (replyBody source.toNat 2 0 (counterBytes s.counters))] } } ∧
    (∀ r : PeerRecord, s.table.records[argument.toNat]? = some r →
      exec (.rdpr source argument) s = .next { h with
        bus := { h.bus with
          replySlots := s.bus.replySlots ++
            [buildFrame .reply s.startUp.address
              (replyBody source.toNat 3 0 (recordBytes argument.toNat s.table.records.length r))] } }) ∧
    (s.table.records.length ≤ argument.toNat →
      exec (.rdpr source argument) s = .next { h with
        bus := { h.bus with
          replySlots := s.bus.replySlots ++
            [buildFrame .reply s.startUp.address (replyBody source.toNat 3 1 [])] } })) ∧
  (∀ s : State, ∃ r : List Byte, r = statusRecord s ∧ r.length = 43 ∧
    byteAt r 0 = s.startUp.lifecycle.code + (if s.table.lone = true then 128 else 0) ∧
    byteAt r 1 = s.engine.applied.code * 16 + s.engine.target.mode.code ∧
    (∀ p ∈ s.stagger.pending, byteAt r 2 = p.kind.code * 16 + p.phase.code) ∧
    (s.stagger.pending = none → byteAt r 2 < 16) ∧
    byteAt r 3 = s.output.wheel.code ∧ (s.rotation.rpm ≤ 65535 → halfAt r 4 = s.rotation.rpm) ∧
    byteAt r 6 = s.reconciler.reference.code ∧
    (∀ p ∈ s.reconciler.reference.point,
      (-32768 ≤ p.t → p.t ≤ 32767 → signed16 (halfAt r 7) = p.t) ∧
      (-32768 ≤ p.w → p.w ≤ 32767 → signed16 (halfAt r 9) = p.w) ∧
      (-32768 ≤ p.h → p.h ≤ 32767 → signed16 (halfAt r 11) = p.h)) ∧
    (s.reconciler.reference = .invalid → halfAt r 7 = 0 ∧ halfAt r 9 = 0 ∧ halfAt r 11 = 0) ∧
    byteAt r 13 = s.reconciler.count % 256 ∧
    (∀ v ∈ s.reading .retT, -32768 ≤ v → v ≤ 32767 → signed16 (halfAt r 14) = v) ∧
    (∀ v ∈ s.reading .retW, -32768 ≤ v → v ≤ 32767 → signed16 (halfAt r 16) = v) ∧
    (∀ v ∈ s.reading .retT, ∀ w ∈ s.reading .retW, signed16 (halfAt r 18) = enthalpy v w) ∧
    (s.reading .retT = none ∨ s.reading .retW = none → halfAt r 18 = 0) ∧
    halfAt r 20 = ((s.reading .heatDem).getD 0).toNat % 65536 ∧
    halfAt r 22 = ((s.reading .coolDem).getD 0).toNat % 65536 ∧
    halfAt r 24 = s.allocator.relief.value % 65536 ∧ byteAt r 26 = s.allocator.relief.participants.length % 256 ∧
    halfAt r 27 = s.allocator.relief.ownShare % 65536 ∧ halfAt r 29 = s.allocator.relief.grant % 65536 ∧
    halfAt r 31 = s.allocator.wfc.value % 65536 ∧ byteAt r 33 = s.allocator.wfc.participants.length % 256 ∧
    halfAt r 34 = s.allocator.wfc.ownShare % 65536 ∧ halfAt r 36 = s.allocator.wfc.grant % 65536 ∧
    (∀ c : Quantity → Nat, (∀ q, c q = (s.scanner.windows.get q).state.code) →
      byteAt r 38 = c .outT * 64 + c .outW * 16 + c .retT * 4 + c .retW ∧
      byteAt r 39 = c .exhT * 64 + c .heatDem * 16 + c .coolDem * 4 + c .bypFb ∧ byteAt r 40 = c .oaFb * 64) ∧
    (∀ b : FaultSet → Nat, (∀ x : FaultSet, b x =
        (if x.sensor = true then 128 else 0) + (if x.reference = true then 64 else 0) +
          (if x.wheelStall = true then 32 else 0) + (if x.damper = true then 16 else 0) +
          (if x.addressClash = true then 8 else 0) + (if x.configDefault = true then 4 else 0) +
          (if x.busStuck = true then 2 else 0) + (if x.isolated = true then 1 else 0)) →
      byteAt r 41 = b (faultsPresent s) ∧ byteAt r 42 = b s.responder.sticky)) ∧
  (∀ c : Counters, ∃ r : List Byte, r = counterBytes c ∧ r.length = 16 ∧
    halfAt r 0 = c.crcErrors % 65536 ∧ halfAt r 2 = c.framesAbandoned % 65536 ∧
    halfAt r 4 = c.contentionsLost % 65536 ∧ halfAt r 6 = c.seqGaps % 65536 ∧
    halfAt r 8 = c.tableRefusals % 65536 ∧ halfAt r 10 = c.queriesDropped % 65536 ∧
    halfAt r 12 = c.sampleRejects % 65536 ∧ halfAt r 14 = c.scanOverruns % 65536) ∧
  (∀ (index held : Nat) (p : PeerRecord), ∃ r : List Byte, r = recordBytes index held p ∧ r.length = 32 ∧
    byteAt r 0 = index % 256 ∧ byteAt r 1 = held % 256 ∧ byteAt r 2 = p.address % 256 ∧
    byteAt r 3 = (if p.sameRiser = true then 2 else 0) + (if p.samePlant = true then 1 else 0) ∧
    byteAt r 4 = p.said.riserGroup % 256 ∧ byteAt r 5 = p.said.plantGroup % 256 ∧ halfAt r 6 = p.said.height % 65536 ∧
    byteAt r 8 = p.said.period % 256 ∧ byteAt r 9 = p.state.code ∧ halfAt r 10 = min 65535 (p.silence / 1000) ∧
    byteAt r 12 = p.said.sequence % 256 ∧ byteAt r 13 = p.gapCount % 256 ∧ byteAt r 14 = stateByte p.said % 256 ∧
    (∀ o ∈ p.said.observation, (-32768 ≤ o.t → o.t ≤ 32767 → signed16 (halfAt r 15) = o.t) ∧ halfAt r 17 = o.w % 65536) ∧
    (p.said.observation = none → halfAt r 15 = 0 ∧ halfAt r 17 = 0) ∧
    halfAt r 19 = p.said.relief.request % 65536 ∧ halfAt r 21 = p.said.relief.cap % 65536 ∧
    halfAt r 23 = p.said.relief.inUse % 65536 ∧ halfAt r 25 = p.said.wfc.request % 65536 ∧
    halfAt r 27 = p.said.wfc.cap % 65536 ∧ halfAt r 29 = p.said.wfc.inUse % 65536 ∧ byteAt r 31 = p.said.faults.toNat)

/-- The six queries that act, taken in an answering state with a REPLY slot free: the action of R187 on the state that hearing the frame leaves, and a
REPLY of three body bytes with its result (R22, R141, R184, R187). -/
def Obligations.ActingQueriesAct : Prop :=
  ∀ (source : Addr) (argument : Half) (s : State), canReceive s = true → source.toNat ≠ s.startUp.address →
    s.startUp.lifecycle.answers = true → s.bus.replySlots.length < 2 → ∃ h : State,
    h = hearStation { s with bus := { s.bus with receiver := .waitIdle, remnant := false } } ∧
    exec (.clrc source argument) s = .next { h with
      counters := zeroCounters, responder := { h.responder with sticky := noFaults }
      bus := { h.bus with
        replySlots := s.bus.replySlots ++ [buildFrame .reply s.startUp.address (replyBody source.toNat 4 0 [])] } } ∧
    exec (.rstw source argument) s = .next { h with
      startUp := { h.startUp with restartPending := true }
      bus := { h.bus with
        replySlots := s.bus.replySlots ++ [buildFrame .reply s.startUp.address (replyBody source.toNat 5 0 [])] } } ∧
    (argument.toNat = 0 → exec (.fbyp source argument) s = .next { h with
      bus := { h.bus with
        replySlots := s.bus.replySlots ++ [buildFrame .reply s.startUp.address (replyBody source.toNat 6 2 [])] } }) ∧
    (argument.toNat ≠ 0 → ∃ t, exec (.fbyp source argument) s = .next t ∧
      t.bus.replySlots =
        s.bus.replySlots ++ [buildFrame .reply s.startUp.address (replyBody source.toNat 6 0 [])] ∧
      t.engine = { s.engine with
        applied := .bypass, target := .bypass, dwell := 0
        forceBypass := some (min 240 argument.toNat * 60000) } ∧
      t.stagger.pending = none ∧
      (s.stagger.pending.isSome = true → t.bus.intentSlot = none) ∧
      (s.engine.applied ≠ .bypass → t.output.wheel ≠ .running ∧ t.output.wheel ≠ .purging ∧
        (s.startUp.lifecycle.inService = true →
          t.output.bypass.command = 1000 ∧ t.output.outdoor.command = s.cfg.fmin)) ∧
      (s.engine.applied = .bypass → t.output = h.output) ∧
      t.startUp = h.startUp ∧ t.allocator = h.allocator ∧ t.fan = h.fan ∧ t.table = s.table ∧
      t.scanner = s.scanner ∧ t.reconciler = s.reconciler ∧ t.counters = s.counters ∧
      t.responder.sticky = s.responder.sticky) ∧
    exec (.frel source argument) s = .next { h with
      engine := { h.engine with forceBypass := none }
      bus := { h.bus with
        replySlots := s.bus.replySlots ++ [buildFrame .reply s.startUp.address (replyBody source.toNat 7 0 [])] } } ∧
    (s.output.wheel ≠ .stalled → exec (.clst source argument) s = .next { h with
      bus := { h.bus with
        replySlots := s.bus.replySlots ++ [buildFrame .reply s.startUp.address (replyBody source.toNat 8 0 [])] } }) ∧
    (s.output.wheel = .stalled → ∃ t, exec (.clst source argument) s = .next t ∧
      t.bus.replySlots =
        s.bus.replySlots ++ [buildFrame .reply s.startUp.address (replyBody source.toNat 8 0 [])] ∧ t.output.wheel = .stopped ∧ t.output.wheelRun = false ∧
      t.output.wheelSpd = 0 ∧ t.output.purge = none ∧
      t.output.idle =
        (if s.cfg.purgeInterval = 0 ∨ s.startUp.lifecycle.inService = false then none else some 0) ∧
      t.responder.sticky = s.responder.sticky ∧ t.engine = s.engine ∧ t.startUp = h.startUp ∧
      t.allocator = s.allocator ∧ t.table = s.table ∧ t.counters = s.counters) ∧
    (∀ kind : Byte, (Instr.unknown source kind argument).wf = true →
      exec (.unknown source kind argument) s = .next { h with
        bus := { h.bus with
        replySlots := s.bus.replySlots ++ [buildFrame .reply s.startUp.address (replyBody source.toNat kind.toNat 3 [])] } })

/-- A query with both REPLY slots full is dropped whole and counted (R186); one taken in COMMISSION or SERVICE, and one the receiver does not take,
has no action and no REPLY (R159, R186; the receiver's part is the model's reading, log 9, and the station in SERVICE its choice, log 25); one from
the own address is a clash, as any frame is (R167). -/
def Obligations.QueriesAreDroppedOrIgnored : Prop :=
  ∀ (c : Instr) (source : Addr) (argument : Half) (kind : Byte) (s : State),
    c = .rdst source argument ∨ c = .rdct source argument ∨ c = .rdpr source argument ∨ c = .clrc source argument ∨
    c = .rstw source argument ∨ c = .fbyp source argument ∨ c = .frel source argument ∨ c = .clst source argument ∨
    c = .unknown source kind argument → ∃ heard : State,
    heard = { s with bus := { s.bus with receiver := .waitIdle, remnant := false } } ∧
    (canReceive s = false → exec c s = .next s) ∧
    (canReceive s = true → source.toNat ≠ s.startUp.address → s.startUp.lifecycle.answers = true →
      2 ≤ s.bus.replySlots.length →
      exec c s = .next { hearStation heard with
        counters := { s.counters with queriesDropped := min 65535 (s.counters.queriesDropped + 1) } }) ∧
    (canReceive s = true → source.toNat ≠ s.startUp.address → s.startUp.lifecycle.answers = false →
      exec c s = .next (hearStation heard)) ∧
    (canReceive s = true → source.toNat = s.startUp.address → s.startUp.lifecycle ≠ .config →
      s.startUp.lifecycle ≠ .service → exec c s = exec (.replyReceived
        (buildFrame .reply s.startUp.address (replyBody 0 0 0 []))) s)

/-! ### Outcomes of a transmission (spec/09, section 9.3) -/

/-- An ANNOUNCE on the line. Sent whole: the transmitter QUIET, the receiver in WAIT_IDLE, the slot emptied unless a new snapshot holds it; in JOINING
one of flag JOINING counts toward ACTIVE, which the third enters with both allocations made and both requests in force and, with a sound table, own
shares and grants left at 0 (the model's choice where none fell since ACTIVE was left, log 26) (R162, R165, R181). Abandoned: counted, not resent, the
receiver going on with what it has read (R166). -/
def Obligations.AnnounceOutcomesCountTowardActive : Prop :=
  (∀ (x : Transmission) (s : State), s.bus.onAir = some x → s.bus.transmitter ≠ .quiet → x.slot = .announce →
    ∃ (bus : Bus) (counts : Bool),
    bus = { s.bus with
      transmitter := .quiet, receiver := .waitIdle, remnant := false, onAir := none
      announceSlot := if x.inSlot = true then none else s.bus.announceSlot } ∧
    (counts = true ↔ s.startUp.lifecycle = .joining ∧ byteAt x.frame 6 / 64 = 0) ∧
    (counts = false → exec .frameSentWhole s = .next { s with bus := bus }) ∧
    (counts = true → s.startUp.ownCount < 2 → exec .frameSentWhole s = .next { s with
      bus := bus, startUp := { s.startUp with ownCount := s.startUp.ownCount + 1 } }) ∧
    (counts = true → 2 ≤ s.startUp.ownCount → ∃ t, exec .frameSentWhole s = .next t ∧
      t.startUp = { s.startUp with lifecycle := .active, ownCount := 3 } ∧
      (∀ b : Budget, t.grant b = min (s.grant b) (t.allocator.get b).ownShare ∧
        (t.allocator.get b).participants = divide (s.allocator.get b).value (participantsOf b t)) ∧
      t.engine.reliefRequest = 0 ∧ t.engine.wfcRequest = 0 ∧
      (tableSound s → ∀ b : Budget, (t.allocator.get b).ownShare = 0 ∧ t.grant b = 0) ∧
      t.bus.announceSlot = bus.announceSlot ∧ t.bus.transmitter = .quiet ∧ t.bus.receiver = .waitIdle ∧
      t.table = s.table ∧ t.scanner = s.scanner ∧ t.reconciler = s.reconciler ∧ t.counters = s.counters ∧
      t.responder.sticky = s.responder.sticky)) ∧
  (∀ (x : Transmission) (s : State), s.bus.onAir = some x → s.bus.transmitter ≠ .quiet → x.slot = .announce →
    exec .frameAbandoned s = .next { s with
      bus := { s.bus with
        transmitter := .quiet, receiver := .collecting, remnant := true, onAir := none
        announceSlot := if x.inSlot = true then none else s.bus.announceSlot }
      counters := { s.counters with framesAbandoned := min 65535 (s.counters.framesAbandoned + 1) } }) ∧
  (∀ s : State, s.bus.transmitter = .quiet ∨ s.bus.onAir = none →
    exec .frameSentWhole s = .next s ∧ exec .frameAbandoned s = .next s)

/-- An INTENT on the line. Sent whole, its transition goes to WINDOW with the window timer. Abandoned, it is resent once, after a backoff of address ×
10 ms, and the second time the window opens as if it had been sent. An INTENT that its slot no longer holds, and one whose transition was cancelled
while it was in transmission, is disregarded. BACKOFF_TIMER_EXPIRY places the INTENT again (R118, R119, R124, R125, R162, R165, R166). -/
def Obligations.IntentOutcomesOpenTheWindow : Prop :=
  (∀ (x : Transmission) (p : Pending) (s : State), s.bus.onAir = some x → s.bus.transmitter ≠ .quiet →
    x.slot = .intent → s.stagger.pending = some p → ∃ (sent abandoned : Bus) (counted : Counters),
    sent = { s.bus with
      transmitter := .quiet, receiver := .waitIdle, remnant := false, onAir := none
      intentSlot := if x.inSlot = true then none else s.bus.intentSlot } ∧
    abandoned = { sent with receiver := .collecting, remnant := true } ∧
    counted = { s.counters with framesAbandoned := min 65535 (s.counters.framesAbandoned + 1) } ∧
    (x.inSlot = true → exec .frameSentWhole s = .next { s with
      bus := sent
      stagger := { s.stagger with
        pending := some { p with phase := .window }, windowTimer := some (secs s.cfg.intentWindow) } }) ∧
    (x.inSlot = true → p.resendUsed = false → exec .frameAbandoned s = .next { s with
      bus := abandoned, counters := counted
      stagger := { s.stagger with
        pending := some { p with resendUsed := true }, backoff := some (s.startUp.address * 10) } }) ∧
    (x.inSlot = true → p.resendUsed = true → exec .frameAbandoned s = .next { s with
      bus := abandoned, counters := counted
      stagger := { s.stagger with
        pending := some { p with phase := .window }, windowTimer := some (secs s.cfg.intentWindow) } }) ∧
    (x.inSlot = false → exec .frameSentWhole s = .next { s with bus := sent } ∧
      exec .frameAbandoned s = .next { s with bus := abandoned, counters := counted })) ∧
  (∀ (x : Transmission) (s : State), s.bus.onAir = some x → s.bus.transmitter ≠ .quiet → x.slot = .intent →
    s.stagger.pending = none → ∃ sent : Bus,
    sent = { s.bus with
      transmitter := .quiet, receiver := .waitIdle, remnant := false, onAir := none
      intentSlot := if x.inSlot = true then none else s.bus.intentSlot } ∧
    exec .frameSentWhole s = .next { s with bus := sent } ∧
    exec .frameAbandoned s = .next { s with
      bus := { sent with receiver := .collecting, remnant := true }
      counters := { s.counters with framesAbandoned := min 65535 (s.counters.framesAbandoned + 1) } }) ∧
  (∀ (p : Pending) (s : State), s.stagger.pending = some p → s.stagger.backoff.isSome = true →
    ∃ (t : State) (f : Frame), exec .backoffTimerExpiry s = .next t ∧
    f = buildFrame .intent s.startUp.address (intentBody p.kind s.cfg.riserGroup s.cfg.height) ∧
    t.stagger = { s.stagger with backoff := none } ∧ t.bus.intentSlot = some f ∧
    (s.bus.receiver = .idle → s.bus.transmitter = .quiet → s.bus.stuck = false →
      s.startUp.lifecycle.inService = true → t.bus.transmitter = .contending ∧
      t.bus.onAir = some { slot := .intent, frame := f, inSlot := true }) ∧
    t = { s with bus := t.bus, stagger := t.stagger }) ∧
  (∀ s : State, s.stagger.pending = none ∨ s.stagger.backoff = none → exec .backoffTimerExpiry s = .next s)

/-- A REPLY on the line, sent whole or abandoned, leaves its slot to the younger one (R162, R165, R166). The one that answers an RSTW takes the
pending restart, and WARM_RESTART is that event: the table of R184 says what is kept and what is cleared, and the station is in LISTEN with its listen
timer at 3 × P (R151, R180, R184; log 13). A settle timer that runs goes on where the restart does not move its damper (the model's reading, log 15). -/
def Obligations.RestartIsTakenAtItsReply : Prop :=
  (∀ (x : Transmission) (s : State), s.bus.onAir = some x → s.bus.transmitter ≠ .quiet → x.slot = .reply →
    x.inSlot = true → s.startUp.restartPending = false ∨ byteAt x.frame 6 ≠ 5 →
    exec .frameSentWhole s = .next { s with
      bus := { s.bus with
        transmitter := .quiet, receiver := .waitIdle, remnant := false, onAir := none
        replySlots := s.bus.replySlots.tail } } ∧
    exec .frameAbandoned s = .next { s with
      bus := { s.bus with
        transmitter := .quiet, receiver := .collecting, remnant := true, onAir := none
        replySlots := s.bus.replySlots.tail }
      counters := { s.counters with framesAbandoned := min 65535 (s.counters.framesAbandoned + 1) } } ∧
    (∀ sentWhole : Bool, exec (.warmRestart sentWhole) s = .next s)) ∧
  (∀ (x : Transmission) (c : Instr) (s : State), s.bus.onAir = some x → s.bus.transmitter ≠ .quiet →
    x.slot = .reply → s.startUp.restartPending = true → byteAt x.frame 6 = 5 →
    c = .frameSentWhole ∨ c = .frameAbandoned ∨ c = .warmRestart true ∨ c = .warmRestart false →
    ∃ t, exec c s = .next t ∧
    t.startUp = { s.startUp with
      lifecycle := .listen, listenTimer := some (secs (3 * s.cfg.announcePeriod)), ownCount := 0,
      restartPending := false } ∧
    t.scanner = { startScanner s.cfg with
      scanTimer := if s.cfg.scanSource = .external then none else some s.cfg.scanPeriod } ∧
    t.rotation = idleRotation ∧ t.reconciler = startReconciler ∧ t.engine = startEngine s.cfg ∧ t.table = startTable ∧
    t.allocator = startAllocator s.cfg ∧ t.stagger = idleStagger ∧ t.fan = { s.fan with suspended := false } ∧
    t.bus = { startBus .waitIdle with lastHeard := some (secs (5 * s.cfg.announcePeriod)) } ∧
    t.output.wheel = .stopped ∧ t.output.wheelRun = false ∧ t.output.wheelSpd = 0 ∧ t.output.wfcPos = 0 ∧
    t.output.idle = none ∧ t.output.purge = none ∧ t.output.test = none ∧ t.output.wanted = s.cfg.fmin ∧
    t.output.bypass = {
      command := 1000, outcome := s.output.bypass.outcome, mismatches := 0
      settle := if s.output.bypass.command = 1000 then s.output.bypass.settle else some (secs s.cfg.strokeTime) } ∧
    t.output.outdoor = {
      command := s.cfg.fmin, outcome := s.output.outdoor.outcome, mismatches := 0
      settle := if s.output.outdoor.command = s.cfg.fmin then s.output.outdoor.settle
        else some (secs s.cfg.strokeTime) } ∧
    t.responder = { sticky := s.responder.sticky, alarm := true } ∧
    t.counters = { s.counters with
      framesAbandoned :=
        if c = .frameAbandoned ∨ c = .warmRestart false then min 65535 (s.counters.framesAbandoned + 1)
        else s.counters.framesAbandoned } ∧
    t.freeDraws = s.freeDraws) ∧
  (∀ (sentWhole : Bool) (s : State),
    s.bus.transmitter = .quiet ∨ s.bus.onAir = none ∨ s.startUp.restartPending = false →
    exec (.warmRestart sentWhole) s = .next s)
end

