-- ==== Sys2Proof/Laws/State.lean ====
section
/-! SUPPORT. What the plain updates of the state leave as it is: one field a conjunct, each true by `rfl`, all of them simp lemmas. -/

namespace Sys2Proof.Machine

/-! ### Replacing one of a number of like things -/

/-- The window that was put is read back. -/
@[simp] theorem Windows_get_set (w : Windows) (q : Quantity) (v : Window) : (w.set q v).get q = v := by cases q <;> rfl

/-- Every other window stays. -/
@[simp] theorem Windows_get_set_other (w : Windows) (q p : Quantity) (v : Window) (h : p ≠ q) :
    (w.set q v).get p = w.get p := by
  cases q <;> cases p <;> first | rfl | exact absurd rfl h

/-- The allocation record that was put is read back. -/
@[simp] theorem Allocator_get_set (a : Allocator) (b : Budget) (v : Allocation) : (a.set b v).get b = v := by
  cases b <;> rfl

/-- The record of the other budget stays. -/
@[simp] theorem Allocator_get_set_other (a : Allocator) (b c : Budget) (v : Allocation) (h : c ≠ b) :
    (a.set b v).get c = a.get c := by
  cases b <;> cases c <;> first | rfl | exact absurd rfl h

/-- The damper that was put is read back. -/
@[simp] theorem Output_damper_set (o : Output) (d : Damper) (v : DamperState) : (o.setDamper d v).damper d = v := by
  cases d <;> rfl

/-- The other damper stays. -/
@[simp] theorem Output_damper_set_other (o : Output) (d e : Damper) (v : DamperState) (h : e ≠ d) :
    (o.setDamper d v).damper e = o.damper e := by
  cases d <;> cases e <;> first | rfl | exact absurd rfl h

/-! ### Flags and counters (spec/11) -/

/-- What `refreshAlarm` leaves as it is. -/
@[simp] theorem refreshAlarm_frame (s : State) :
    (refreshAlarm s).startUp = s.startUp ∧ (refreshAlarm s).scanner = s.scanner ∧ (refreshAlarm s).rotation = s.rotation ∧
    (refreshAlarm s).reconciler = s.reconciler ∧ (refreshAlarm s).engine = s.engine ∧ (refreshAlarm s).table = s.table ∧
    (refreshAlarm s).allocator = s.allocator ∧ (refreshAlarm s).stagger = s.stagger ∧ (refreshAlarm s).fan = s.fan ∧
    (refreshAlarm s).output = s.output ∧ (refreshAlarm s).bus = s.bus ∧ (refreshAlarm s).counters = s.counters ∧
    (refreshAlarm s).freeDraws = s.freeDraws ∧ (refreshAlarm s).pending = s.pending ∧
    (refreshAlarm s).responder.sticky = s.responder.sticky := by
  exact ⟨rfl, rfl, rfl, rfl, rfl, rfl, rfl, rfl, rfl, rfl, rfl, rfl, rfl, rfl, rfl⟩

/-- What `setSticky` leaves as it is. -/
@[simp] theorem setSticky_frame (f : StationFault) (s : State) :
    (setSticky f s).startUp = s.startUp ∧ (setSticky f s).scanner = s.scanner ∧ (setSticky f s).rotation = s.rotation ∧
    (setSticky f s).reconciler = s.reconciler ∧ (setSticky f s).engine = s.engine ∧ (setSticky f s).table = s.table ∧
    (setSticky f s).allocator = s.allocator ∧ (setSticky f s).stagger = s.stagger ∧ (setSticky f s).fan = s.fan ∧
    (setSticky f s).output = s.output ∧ (setSticky f s).bus = s.bus ∧ (setSticky f s).counters = s.counters ∧
    (setSticky f s).freeDraws = s.freeDraws ∧ (setSticky f s).pending = s.pending ∧
    (setSticky f s).responder.alarm = s.responder.alarm := by
  exact ⟨rfl, rfl, rfl, rfl, rfl, rfl, rfl, rfl, rfl, rfl, rfl, rfl, rfl, rfl, rfl⟩

/-- What `countCrcError` leaves as it is. -/
@[simp] theorem countCrcError_frame (s : State) :
    (countCrcError s).startUp = s.startUp ∧ (countCrcError s).scanner = s.scanner ∧ (countCrcError s).rotation = s.rotation ∧
    (countCrcError s).reconciler = s.reconciler ∧ (countCrcError s).engine = s.engine ∧ (countCrcError s).table = s.table ∧
    (countCrcError s).allocator = s.allocator ∧ (countCrcError s).stagger = s.stagger ∧ (countCrcError s).fan = s.fan ∧
    (countCrcError s).output = s.output ∧ (countCrcError s).bus = s.bus ∧ (countCrcError s).responder = s.responder ∧
    (countCrcError s).freeDraws = s.freeDraws ∧ (countCrcError s).pending = s.pending ∧
    (countCrcError s).counters.framesAbandoned = s.counters.framesAbandoned ∧
    (countCrcError s).counters.contentionsLost = s.counters.contentionsLost ∧
    (countCrcError s).counters.seqGaps = s.counters.seqGaps ∧
    (countCrcError s).counters.tableRefusals = s.counters.tableRefusals ∧
    (countCrcError s).counters.queriesDropped = s.counters.queriesDropped ∧
    (countCrcError s).counters.sampleRejects = s.counters.sampleRejects ∧
    (countCrcError s).counters.scanOverruns = s.counters.scanOverruns := by
  exact ⟨rfl, rfl, rfl, rfl, rfl, rfl, rfl, rfl, rfl, rfl, rfl, rfl, rfl, rfl, rfl, rfl, rfl, rfl, rfl, rfl, rfl⟩

/-- What `countAbandoned` leaves as it is. -/
@[simp] theorem countAbandoned_frame (s : State) :
    (countAbandoned s).startUp = s.startUp ∧ (countAbandoned s).scanner = s.scanner ∧ (countAbandoned s).rotation = s.rotation ∧
    (countAbandoned s).reconciler = s.reconciler ∧ (countAbandoned s).engine = s.engine ∧ (countAbandoned s).table = s.table ∧
    (countAbandoned s).allocator = s.allocator ∧ (countAbandoned s).stagger = s.stagger ∧ (countAbandoned s).fan = s.fan ∧
    (countAbandoned s).output = s.output ∧ (countAbandoned s).bus = s.bus ∧ (countAbandoned s).responder = s.responder ∧
    (countAbandoned s).freeDraws = s.freeDraws ∧ (countAbandoned s).pending = s.pending ∧
    (countAbandoned s).counters.crcErrors = s.counters.crcErrors ∧
    (countAbandoned s).counters.contentionsLost = s.counters.contentionsLost ∧
    (countAbandoned s).counters.seqGaps = s.counters.seqGaps ∧
    (countAbandoned s).counters.tableRefusals = s.counters.tableRefusals ∧
    (countAbandoned s).counters.queriesDropped = s.counters.queriesDropped ∧
    (countAbandoned s).counters.sampleRejects = s.counters.sampleRejects ∧
    (countAbandoned s).counters.scanOverruns = s.counters.scanOverruns := by
  exact ⟨rfl, rfl, rfl, rfl, rfl, rfl, rfl, rfl, rfl, rfl, rfl, rfl, rfl, rfl, rfl, rfl, rfl, rfl, rfl, rfl, rfl⟩

/-- What `countContentionLost` leaves as it is. -/
@[simp] theorem countContentionLost_frame (s : State) :
    (countContentionLost s).startUp = s.startUp ∧ (countContentionLost s).scanner = s.scanner ∧
    (countContentionLost s).rotation = s.rotation ∧ (countContentionLost s).reconciler = s.reconciler ∧
    (countContentionLost s).engine = s.engine ∧ (countContentionLost s).table = s.table ∧
    (countContentionLost s).allocator = s.allocator ∧ (countContentionLost s).stagger = s.stagger ∧
    (countContentionLost s).fan = s.fan ∧ (countContentionLost s).output = s.output ∧ (countContentionLost s).bus = s.bus ∧
    (countContentionLost s).responder = s.responder ∧ (countContentionLost s).freeDraws = s.freeDraws ∧
    (countContentionLost s).pending = s.pending ∧ (countContentionLost s).counters.crcErrors = s.counters.crcErrors ∧
    (countContentionLost s).counters.framesAbandoned = s.counters.framesAbandoned ∧
    (countContentionLost s).counters.seqGaps = s.counters.seqGaps ∧
    (countContentionLost s).counters.tableRefusals = s.counters.tableRefusals ∧
    (countContentionLost s).counters.queriesDropped = s.counters.queriesDropped ∧
    (countContentionLost s).counters.sampleRejects = s.counters.sampleRejects ∧
    (countContentionLost s).counters.scanOverruns = s.counters.scanOverruns := by
  exact ⟨rfl, rfl, rfl, rfl, rfl, rfl, rfl, rfl, rfl, rfl, rfl, rfl, rfl, rfl, rfl, rfl, rfl, rfl, rfl, rfl, rfl⟩

/-- What `countSeqGap` leaves as it is. -/
@[simp] theorem countSeqGap_frame (s : State) :
    (countSeqGap s).startUp = s.startUp ∧ (countSeqGap s).scanner = s.scanner ∧ (countSeqGap s).rotation = s.rotation ∧
    (countSeqGap s).reconciler = s.reconciler ∧ (countSeqGap s).engine = s.engine ∧ (countSeqGap s).table = s.table ∧
    (countSeqGap s).allocator = s.allocator ∧ (countSeqGap s).stagger = s.stagger ∧ (countSeqGap s).fan = s.fan ∧
    (countSeqGap s).output = s.output ∧ (countSeqGap s).bus = s.bus ∧ (countSeqGap s).responder = s.responder ∧
    (countSeqGap s).freeDraws = s.freeDraws ∧ (countSeqGap s).pending = s.pending ∧
    (countSeqGap s).counters.crcErrors = s.counters.crcErrors ∧
    (countSeqGap s).counters.framesAbandoned = s.counters.framesAbandoned ∧
    (countSeqGap s).counters.contentionsLost = s.counters.contentionsLost ∧
    (countSeqGap s).counters.tableRefusals = s.counters.tableRefusals ∧
    (countSeqGap s).counters.queriesDropped = s.counters.queriesDropped ∧
    (countSeqGap s).counters.sampleRejects = s.counters.sampleRejects ∧
    (countSeqGap s).counters.scanOverruns = s.counters.scanOverruns := by
  exact ⟨rfl, rfl, rfl, rfl, rfl, rfl, rfl, rfl, rfl, rfl, rfl, rfl, rfl, rfl, rfl, rfl, rfl, rfl, rfl, rfl, rfl⟩

/-- What `countRefusal` leaves as it is. -/
@[simp] theorem countRefusal_frame (s : State) :
    (countRefusal s).startUp = s.startUp ∧ (countRefusal s).scanner = s.scanner ∧ (countRefusal s).rotation = s.rotation ∧
    (countRefusal s).reconciler = s.reconciler ∧ (countRefusal s).engine = s.engine ∧ (countRefusal s).table = s.table ∧
    (countRefusal s).allocator = s.allocator ∧ (countRefusal s).stagger = s.stagger ∧ (countRefusal s).fan = s.fan ∧
    (countRefusal s).output = s.output ∧ (countRefusal s).bus = s.bus ∧ (countRefusal s).responder = s.responder ∧
    (countRefusal s).freeDraws = s.freeDraws ∧ (countRefusal s).pending = s.pending ∧
    (countRefusal s).counters.crcErrors = s.counters.crcErrors ∧
    (countRefusal s).counters.framesAbandoned = s.counters.framesAbandoned ∧
    (countRefusal s).counters.contentionsLost = s.counters.contentionsLost ∧
    (countRefusal s).counters.seqGaps = s.counters.seqGaps ∧
    (countRefusal s).counters.queriesDropped = s.counters.queriesDropped ∧
    (countRefusal s).counters.sampleRejects = s.counters.sampleRejects ∧
    (countRefusal s).counters.scanOverruns = s.counters.scanOverruns := by
  exact ⟨rfl, rfl, rfl, rfl, rfl, rfl, rfl, rfl, rfl, rfl, rfl, rfl, rfl, rfl, rfl, rfl, rfl, rfl, rfl, rfl, rfl⟩

/-- What `countDropped` leaves as it is. -/
@[simp] theorem countDropped_frame (s : State) :
    (countDropped s).startUp = s.startUp ∧ (countDropped s).scanner = s.scanner ∧ (countDropped s).rotation = s.rotation ∧
    (countDropped s).reconciler = s.reconciler ∧ (countDropped s).engine = s.engine ∧ (countDropped s).table = s.table ∧
    (countDropped s).allocator = s.allocator ∧ (countDropped s).stagger = s.stagger ∧ (countDropped s).fan = s.fan ∧
    (countDropped s).output = s.output ∧ (countDropped s).bus = s.bus ∧ (countDropped s).responder = s.responder ∧
    (countDropped s).freeDraws = s.freeDraws ∧ (countDropped s).pending = s.pending ∧
    (countDropped s).counters.crcErrors = s.counters.crcErrors ∧
    (countDropped s).counters.framesAbandoned = s.counters.framesAbandoned ∧
    (countDropped s).counters.contentionsLost = s.counters.contentionsLost ∧
    (countDropped s).counters.seqGaps = s.counters.seqGaps ∧ (countDropped s).counters.tableRefusals = s.counters.tableRefusals ∧
    (countDropped s).counters.sampleRejects = s.counters.sampleRejects ∧
    (countDropped s).counters.scanOverruns = s.counters.scanOverruns := by
  exact ⟨rfl, rfl, rfl, rfl, rfl, rfl, rfl, rfl, rfl, rfl, rfl, rfl, rfl, rfl, rfl, rfl, rfl, rfl, rfl, rfl, rfl⟩

/-- What `countReject` leaves as it is. -/
@[simp] theorem countReject_frame (s : State) :
    (countReject s).startUp = s.startUp ∧ (countReject s).scanner = s.scanner ∧ (countReject s).rotation = s.rotation ∧
    (countReject s).reconciler = s.reconciler ∧ (countReject s).engine = s.engine ∧ (countReject s).table = s.table ∧
    (countReject s).allocator = s.allocator ∧ (countReject s).stagger = s.stagger ∧ (countReject s).fan = s.fan ∧
    (countReject s).output = s.output ∧ (countReject s).bus = s.bus ∧ (countReject s).responder = s.responder ∧
    (countReject s).freeDraws = s.freeDraws ∧ (countReject s).pending = s.pending ∧
    (countReject s).counters.crcErrors = s.counters.crcErrors ∧
    (countReject s).counters.framesAbandoned = s.counters.framesAbandoned ∧
    (countReject s).counters.contentionsLost = s.counters.contentionsLost ∧
    (countReject s).counters.seqGaps = s.counters.seqGaps ∧ (countReject s).counters.tableRefusals = s.counters.tableRefusals ∧
    (countReject s).counters.queriesDropped = s.counters.queriesDropped ∧
    (countReject s).counters.scanOverruns = s.counters.scanOverruns := by
  exact ⟨rfl, rfl, rfl, rfl, rfl, rfl, rfl, rfl, rfl, rfl, rfl, rfl, rfl, rfl, rfl, rfl, rfl, rfl, rfl, rfl, rfl⟩

/-- What `countOverrun` leaves as it is. -/
@[simp] theorem countOverrun_frame (s : State) :
    (countOverrun s).startUp = s.startUp ∧ (countOverrun s).scanner = s.scanner ∧ (countOverrun s).rotation = s.rotation ∧
    (countOverrun s).reconciler = s.reconciler ∧ (countOverrun s).engine = s.engine ∧ (countOverrun s).table = s.table ∧
    (countOverrun s).allocator = s.allocator ∧ (countOverrun s).stagger = s.stagger ∧ (countOverrun s).fan = s.fan ∧
    (countOverrun s).output = s.output ∧ (countOverrun s).bus = s.bus ∧ (countOverrun s).responder = s.responder ∧
    (countOverrun s).freeDraws = s.freeDraws ∧ (countOverrun s).pending = s.pending ∧
    (countOverrun s).counters.crcErrors = s.counters.crcErrors ∧
    (countOverrun s).counters.framesAbandoned = s.counters.framesAbandoned ∧
    (countOverrun s).counters.contentionsLost = s.counters.contentionsLost ∧
    (countOverrun s).counters.seqGaps = s.counters.seqGaps ∧ (countOverrun s).counters.tableRefusals = s.counters.tableRefusals ∧
    (countOverrun s).counters.queriesDropped = s.counters.queriesDropped ∧
    (countOverrun s).counters.sampleRejects = s.counters.sampleRejects := by
  exact ⟨rfl, rfl, rfl, rfl, rfl, rfl, rfl, rfl, rfl, rfl, rfl, rfl, rfl, rfl, rfl, rfl, rfl, rfl, rfl, rfl, rfl⟩

/-! ### Updates of one block -/

/-- What `withdrawIntent` leaves as it is. -/
@[simp] theorem withdrawIntent_frame (s : State) :
    (withdrawIntent s).startUp = s.startUp ∧ (withdrawIntent s).scanner = s.scanner ∧ (withdrawIntent s).rotation = s.rotation ∧
    (withdrawIntent s).reconciler = s.reconciler ∧ (withdrawIntent s).engine = s.engine ∧ (withdrawIntent s).table = s.table ∧
    (withdrawIntent s).allocator = s.allocator ∧ (withdrawIntent s).stagger = s.stagger ∧ (withdrawIntent s).fan = s.fan ∧
    (withdrawIntent s).output = s.output ∧ (withdrawIntent s).responder = s.responder ∧
    (withdrawIntent s).counters = s.counters ∧ (withdrawIntent s).freeDraws = s.freeDraws ∧
    (withdrawIntent s).pending = s.pending ∧ (withdrawIntent s).bus.receiver = s.bus.receiver ∧
    (withdrawIntent s).bus.transmitter = s.bus.transmitter ∧ (withdrawIntent s).bus.announceSlot = s.bus.announceSlot ∧
    (withdrawIntent s).bus.replySlots = s.bus.replySlots ∧ (withdrawIntent s).bus.remnant = s.bus.remnant ∧
    (withdrawIntent s).bus.announceTimer = s.bus.announceTimer ∧ (withdrawIntent s).bus.sequence = s.bus.sequence ∧
    (withdrawIntent s).bus.lastHeard = s.bus.lastHeard ∧ (withdrawIntent s).bus.heard = s.bus.heard ∧
    (withdrawIntent s).bus.clashTimer = s.bus.clashTimer ∧ (withdrawIntent s).bus.clash = s.bus.clash ∧
    (withdrawIntent s).bus.stuck = s.bus.stuck := by
  exact ⟨rfl, rfl, rfl, rfl, rfl, rfl, rfl, rfl, rfl, rfl, rfl, rfl, rfl, rfl, rfl, rfl, rfl, rfl, rfl, rfl, rfl, rfl, rfl,
    rfl, rfl, rfl⟩

/-- What `suspendFan` leaves as it is. -/
@[simp] theorem suspendFan_frame (s : State) :
    (suspendFan s).startUp = s.startUp ∧ (suspendFan s).scanner = s.scanner ∧ (suspendFan s).rotation = s.rotation ∧
    (suspendFan s).reconciler = s.reconciler ∧ (suspendFan s).engine = s.engine ∧ (suspendFan s).table = s.table ∧
    (suspendFan s).allocator = s.allocator ∧ (suspendFan s).stagger = s.stagger ∧ (suspendFan s).output = s.output ∧
    (suspendFan s).bus = s.bus ∧ (suspendFan s).responder = s.responder ∧ (suspendFan s).counters = s.counters ∧
    (suspendFan s).freeDraws = s.freeDraws ∧ (suspendFan s).pending = s.pending ∧ (suspendFan s).fan.state = s.fan.state ∧
    (suspendFan s).fan.offDelay = s.fan.offDelay := by
  exact ⟨rfl, rfl, rfl, rfl, rfl, rfl, rfl, rfl, rfl, rfl, rfl, rfl, rfl, rfl, rfl, rfl⟩

/-- What `setLifecycle` leaves as it is. -/
@[simp] theorem setLifecycle_frame (l : Lifecycle) (s : State) :
    (setLifecycle l s).scanner = s.scanner ∧ (setLifecycle l s).rotation = s.rotation ∧
    (setLifecycle l s).reconciler = s.reconciler ∧ (setLifecycle l s).engine = s.engine ∧ (setLifecycle l s).table = s.table ∧
    (setLifecycle l s).allocator = s.allocator ∧ (setLifecycle l s).stagger = s.stagger ∧ (setLifecycle l s).fan = s.fan ∧
    (setLifecycle l s).output = s.output ∧ (setLifecycle l s).bus = s.bus ∧ (setLifecycle l s).counters = s.counters ∧
    (setLifecycle l s).freeDraws = s.freeDraws ∧ (setLifecycle l s).pending = s.pending ∧
    (setLifecycle l s).startUp.address = s.startUp.address ∧ (setLifecycle l s).startUp.settings = s.startUp.settings ∧
    (setLifecycle l s).startUp.configDefault = s.startUp.configDefault ∧
    (setLifecycle l s).startUp.configTimer = s.startUp.configTimer ∧
    (setLifecycle l s).startUp.listenTimer = s.startUp.listenTimer ∧ (setLifecycle l s).startUp.ownCount = s.startUp.ownCount ∧
    (setLifecycle l s).startUp.restartPending = s.startUp.restartPending ∧
    (setLifecycle l s).responder.sticky = s.responder.sticky := by
  exact ⟨rfl, rfl, rfl, rfl, rfl, rfl, rfl, rfl, rfl, rfl, rfl, rfl, rfl, rfl, rfl, rfl, rfl, rfl, rfl, rfl, rfl⟩

/-- What `startScanTimer` leaves as it is. -/
@[simp] theorem startScanTimer_frame (s : State) :
    (startScanTimer s).startUp = s.startUp ∧ (startScanTimer s).rotation = s.rotation ∧
    (startScanTimer s).reconciler = s.reconciler ∧ (startScanTimer s).engine = s.engine ∧ (startScanTimer s).table = s.table ∧
    (startScanTimer s).allocator = s.allocator ∧ (startScanTimer s).stagger = s.stagger ∧ (startScanTimer s).fan = s.fan ∧
    (startScanTimer s).output = s.output ∧ (startScanTimer s).bus = s.bus ∧ (startScanTimer s).responder = s.responder ∧
    (startScanTimer s).counters = s.counters ∧ (startScanTimer s).freeDraws = s.freeDraws ∧
    (startScanTimer s).pending = s.pending ∧ (startScanTimer s).scanner.windows = s.scanner.windows ∧
    (startScanTimer s).scanner.scan = s.scanner.scan ∧ (startScanTimer s).scanner.scanOut = s.scanner.scanOut ∧
    (startScanTimer s).scanner.scanOutTimer = s.scanner.scanOutTimer := by
  exact ⟨rfl, rfl, rfl, rfl, rfl, rfl, rfl, rfl, rfl, rfl, rfl, rfl, rfl, rfl, rfl, rfl, rfl, rfl⟩

/-- What `enterListen` leaves as it is. -/
@[simp] theorem enterListen_frame (s : State) :
    (enterListen s).scanner = s.scanner ∧ (enterListen s).rotation = s.rotation ∧ (enterListen s).reconciler = s.reconciler ∧
    (enterListen s).engine = s.engine ∧ (enterListen s).table = s.table ∧ (enterListen s).allocator = s.allocator ∧
    (enterListen s).stagger = s.stagger ∧ (enterListen s).fan = s.fan ∧ (enterListen s).output = s.output ∧
    (enterListen s).counters = s.counters ∧ (enterListen s).freeDraws = s.freeDraws ∧ (enterListen s).pending = s.pending ∧
    (enterListen s).startUp.address = s.startUp.address ∧ (enterListen s).startUp.settings = s.startUp.settings ∧
    (enterListen s).startUp.configDefault = s.startUp.configDefault ∧
    (enterListen s).startUp.configTimer = s.startUp.configTimer ∧ (enterListen s).startUp.ownCount = s.startUp.ownCount ∧
    (enterListen s).startUp.restartPending = s.startUp.restartPending ∧ (enterListen s).bus.receiver = s.bus.receiver ∧
    (enterListen s).bus.transmitter = s.bus.transmitter ∧ (enterListen s).bus.announceSlot = s.bus.announceSlot ∧
    (enterListen s).bus.intentSlot = s.bus.intentSlot ∧ (enterListen s).bus.replySlots = s.bus.replySlots ∧
    (enterListen s).bus.onAir = s.bus.onAir ∧ (enterListen s).bus.remnant = s.bus.remnant ∧
    (enterListen s).bus.announceTimer = s.bus.announceTimer ∧ (enterListen s).bus.sequence = s.bus.sequence ∧
    (enterListen s).bus.heard = s.bus.heard ∧ (enterListen s).bus.clashTimer = s.bus.clashTimer ∧
    (enterListen s).bus.clash = s.bus.clash ∧ (enterListen s).bus.stuck = s.bus.stuck ∧
    (enterListen s).responder.sticky = s.responder.sticky := by
  exact ⟨rfl, rfl, rfl, rfl, rfl, rfl, rfl, rfl, rfl, rfl, rfl, rfl, rfl, rfl, rfl, rfl, rfl, rfl, rfl, rfl, rfl, rfl, rfl,
    rfl, rfl, rfl, rfl, rfl, rfl, rfl, rfl, rfl⟩

/-- What `moveWheel` leaves as it is. -/
@[simp] theorem moveWheel_frame (w : Wheel) (s : State) :
    (moveWheel w s).startUp = s.startUp ∧ (moveWheel w s).scanner = s.scanner ∧ (moveWheel w s).reconciler = s.reconciler ∧
    (moveWheel w s).engine = s.engine ∧ (moveWheel w s).table = s.table ∧ (moveWheel w s).allocator = s.allocator ∧
    (moveWheel w s).stagger = s.stagger ∧ (moveWheel w s).fan = s.fan ∧ (moveWheel w s).bus = s.bus ∧
    (moveWheel w s).counters = s.counters ∧ (moveWheel w s).freeDraws = s.freeDraws ∧ (moveWheel w s).pending = s.pending ∧
    (moveWheel w s).output.wanted = s.output.wanted ∧ (moveWheel w s).output.bypass = s.output.bypass ∧
    (moveWheel w s).output.outdoor = s.output.outdoor ∧ (moveWheel w s).output.test = s.output.test ∧
    (moveWheel w s).output.wfcPos = s.output.wfcPos ∧ (moveWheel w s).responder.sticky = s.responder.sticky := by
  exact ⟨rfl, rfl, rfl, rfl, rfl, rfl, rfl, rfl, rfl, rfl, rfl, rfl, rfl, rfl, rfl, rfl, rfl, rfl⟩

/-- What `setRecords` leaves as it is. -/
@[simp] theorem setRecords_frame (l : List PeerRecord) (s : State) :
    (setRecords l s).startUp = s.startUp ∧ (setRecords l s).scanner = s.scanner ∧ (setRecords l s).rotation = s.rotation ∧
    (setRecords l s).reconciler = s.reconciler ∧ (setRecords l s).engine = s.engine ∧ (setRecords l s).allocator = s.allocator ∧
    (setRecords l s).stagger = s.stagger ∧ (setRecords l s).fan = s.fan ∧ (setRecords l s).output = s.output ∧
    (setRecords l s).bus = s.bus ∧ (setRecords l s).responder = s.responder ∧ (setRecords l s).counters = s.counters ∧
    (setRecords l s).freeDraws = s.freeDraws ∧ (setRecords l s).pending = s.pending ∧
    (setRecords l s).table.lone = s.table.lone := by
  exact ⟨rfl, rfl, rfl, rfl, rfl, rfl, rfl, rfl, rfl, rfl, rfl, rfl, rfl, rfl, rfl⟩

/-- What `receiverTo` leaves as it is. -/
@[simp] theorem receiverTo_frame (r : Receiver) (s : State) :
    (receiverTo r s).startUp = s.startUp ∧ (receiverTo r s).scanner = s.scanner ∧ (receiverTo r s).rotation = s.rotation ∧
    (receiverTo r s).reconciler = s.reconciler ∧ (receiverTo r s).engine = s.engine ∧ (receiverTo r s).table = s.table ∧
    (receiverTo r s).allocator = s.allocator ∧ (receiverTo r s).stagger = s.stagger ∧ (receiverTo r s).fan = s.fan ∧
    (receiverTo r s).output = s.output ∧ (receiverTo r s).responder = s.responder ∧ (receiverTo r s).counters = s.counters ∧
    (receiverTo r s).freeDraws = s.freeDraws ∧ (receiverTo r s).pending = s.pending ∧
    (receiverTo r s).bus.transmitter = s.bus.transmitter ∧ (receiverTo r s).bus.announceSlot = s.bus.announceSlot ∧
    (receiverTo r s).bus.intentSlot = s.bus.intentSlot ∧ (receiverTo r s).bus.replySlots = s.bus.replySlots ∧
    (receiverTo r s).bus.onAir = s.bus.onAir ∧ (receiverTo r s).bus.announceTimer = s.bus.announceTimer ∧
    (receiverTo r s).bus.sequence = s.bus.sequence ∧ (receiverTo r s).bus.lastHeard = s.bus.lastHeard ∧
    (receiverTo r s).bus.heard = s.bus.heard ∧ (receiverTo r s).bus.clashTimer = s.bus.clashTimer ∧
    (receiverTo r s).bus.clash = s.bus.clash ∧ (receiverTo r s).bus.stuck = s.bus.stuck := by
  exact ⟨rfl, rfl, rfl, rfl, rfl, rfl, rfl, rfl, rfl, rfl, rfl, rfl, rfl, rfl, rfl, rfl, rfl, rfl, rfl, rfl, rfl, rfl, rfl,
    rfl, rfl, rfl⟩

/-- What `adopt` leaves as it is. -/
@[simp] theorem adopt_frame (b : Budget) (s : State) :
    (adopt b s).startUp = s.startUp ∧ (adopt b s).scanner = s.scanner ∧ (adopt b s).rotation = s.rotation ∧
    (adopt b s).reconciler = s.reconciler ∧ (adopt b s).table = s.table ∧ (adopt b s).stagger = s.stagger ∧
    (adopt b s).bus = s.bus ∧ (adopt b s).responder = s.responder ∧ (adopt b s).counters = s.counters ∧
    (adopt b s).freeDraws = s.freeDraws ∧ (adopt b s).pending = s.pending ∧ (adopt b s).engine = s.engine ∧
    (adopt b s).fan = s.fan ∧ (adopt b s).output = s.output := by
  exact ⟨rfl, rfl, rfl, rfl, rfl, rfl, rfl, rfl, rfl, rfl, rfl, rfl, rfl, rfl⟩

/-- What `clearRequests` leaves as it is; the two requests it sets to 0. -/
@[simp] theorem clearRequests_frame (s : State) :
    (clearRequests s).startUp = s.startUp ∧ (clearRequests s).scanner = s.scanner ∧ (clearRequests s).rotation = s.rotation ∧
    (clearRequests s).reconciler = s.reconciler ∧ (clearRequests s).table = s.table ∧
    (clearRequests s).allocator = s.allocator ∧ (clearRequests s).stagger = s.stagger ∧ (clearRequests s).fan = s.fan ∧
    (clearRequests s).output = s.output ∧ (clearRequests s).bus = s.bus ∧ (clearRequests s).responder = s.responder ∧
    (clearRequests s).counters = s.counters ∧ (clearRequests s).freeDraws = s.freeDraws ∧
    (clearRequests s).pending = s.pending ∧ (clearRequests s).engine.applied = s.engine.applied ∧
    (clearRequests s).engine.target = s.engine.target ∧ (clearRequests s).engine.dwell = s.engine.dwell ∧
    (clearRequests s).engine.regime = s.engine.regime ∧ (clearRequests s).engine.candidate = s.engine.candidate ∧
    (clearRequests s).engine.fallback = s.engine.fallback ∧ (clearRequests s).engine.baseSpeed = s.engine.baseSpeed ∧
    (clearRequests s).engine.speedTarget = s.engine.speedTarget ∧ (clearRequests s).engine.reliefRequest = 0 ∧
    (clearRequests s).engine.reliefCap = s.engine.reliefCap ∧ (clearRequests s).engine.wfcRequest = 0 ∧
    (clearRequests s).engine.wfcCap = s.engine.wfcCap ∧ (clearRequests s).engine.forceBypass = s.engine.forceBypass ∧
    (clearRequests s).engine.decisionTimer = s.engine.decisionTimer := by
  simp [clearRequests]

/-- What `stageDwell` leaves as it is. -/
@[simp] theorem stageDwell_frame (s : State) :
    (stageDwell s).startUp = s.startUp ∧ (stageDwell s).scanner = s.scanner ∧ (stageDwell s).rotation = s.rotation ∧
    (stageDwell s).reconciler = s.reconciler ∧ (stageDwell s).table = s.table ∧ (stageDwell s).stagger = s.stagger ∧
    (stageDwell s).bus = s.bus ∧ (stageDwell s).responder = s.responder ∧ (stageDwell s).counters = s.counters ∧
    (stageDwell s).freeDraws = s.freeDraws ∧ (stageDwell s).pending = s.pending ∧ (stageDwell s).allocator = s.allocator ∧
    (stageDwell s).fan = s.fan ∧ (stageDwell s).output = s.output ∧ (stageDwell s).engine.applied = s.engine.applied ∧
    (stageDwell s).engine.target = s.engine.target ∧ (stageDwell s).engine.regime = s.engine.regime ∧
    (stageDwell s).engine.candidate = s.engine.candidate ∧ (stageDwell s).engine.fallback = s.engine.fallback ∧
    (stageDwell s).engine.baseSpeed = s.engine.baseSpeed ∧ (stageDwell s).engine.speedTarget = s.engine.speedTarget ∧
    (stageDwell s).engine.reliefRequest = s.engine.reliefRequest ∧ (stageDwell s).engine.reliefCap = s.engine.reliefCap ∧
    (stageDwell s).engine.wfcRequest = s.engine.wfcRequest ∧ (stageDwell s).engine.wfcCap = s.engine.wfcCap ∧
    (stageDwell s).engine.forceBypass = s.engine.forceBypass ∧ (stageDwell s).engine.decisionTimer = s.engine.decisionTimer := by
  exact ⟨rfl, rfl, rfl, rfl, rfl, rfl, rfl, rfl, rfl, rfl, rfl, rfl, rfl, rfl, rfl, rfl, rfl, rfl, rfl, rfl, rfl, rfl, rfl,
    rfl, rfl, rfl, rfl⟩

/-- What `stageRegime` leaves as it is. -/
@[simp] theorem stageRegime_frame (s : State) :
    (stageRegime s).startUp = s.startUp ∧ (stageRegime s).scanner = s.scanner ∧ (stageRegime s).rotation = s.rotation ∧
    (stageRegime s).reconciler = s.reconciler ∧ (stageRegime s).table = s.table ∧ (stageRegime s).stagger = s.stagger ∧
    (stageRegime s).bus = s.bus ∧ (stageRegime s).responder = s.responder ∧ (stageRegime s).counters = s.counters ∧
    (stageRegime s).freeDraws = s.freeDraws ∧ (stageRegime s).pending = s.pending ∧ (stageRegime s).allocator = s.allocator ∧
    (stageRegime s).fan = s.fan ∧ (stageRegime s).output = s.output ∧ (stageRegime s).engine.applied = s.engine.applied ∧
    (stageRegime s).engine.target = s.engine.target ∧ (stageRegime s).engine.dwell = s.engine.dwell ∧
    (stageRegime s).engine.candidate = s.engine.candidate ∧ (stageRegime s).engine.baseSpeed = s.engine.baseSpeed ∧
    (stageRegime s).engine.speedTarget = s.engine.speedTarget ∧ (stageRegime s).engine.reliefRequest = s.engine.reliefRequest ∧
    (stageRegime s).engine.reliefCap = s.engine.reliefCap ∧ (stageRegime s).engine.wfcRequest = s.engine.wfcRequest ∧
    (stageRegime s).engine.wfcCap = s.engine.wfcCap ∧ (stageRegime s).engine.forceBypass = s.engine.forceBypass ∧
    (stageRegime s).engine.decisionTimer = s.engine.decisionTimer := by
  exact ⟨rfl, rfl, rfl, rfl, rfl, rfl, rfl, rfl, rfl, rfl, rfl, rfl, rfl, rfl, rfl, rfl, rfl, rfl, rfl, rfl, rfl, rfl, rfl,
    rfl, rfl, rfl⟩

/-- What `stageCandidate` leaves as it is. -/
@[simp] theorem stageCandidate_frame (s : State) :
    (stageCandidate s).startUp = s.startUp ∧ (stageCandidate s).scanner = s.scanner ∧ (stageCandidate s).rotation = s.rotation ∧
    (stageCandidate s).reconciler = s.reconciler ∧ (stageCandidate s).table = s.table ∧ (stageCandidate s).stagger = s.stagger ∧
    (stageCandidate s).bus = s.bus ∧ (stageCandidate s).responder = s.responder ∧ (stageCandidate s).counters = s.counters ∧
    (stageCandidate s).freeDraws = s.freeDraws ∧ (stageCandidate s).pending = s.pending ∧
    (stageCandidate s).allocator = s.allocator ∧ (stageCandidate s).fan = s.fan ∧ (stageCandidate s).output = s.output ∧
    (stageCandidate s).engine.applied = s.engine.applied ∧ (stageCandidate s).engine.target = s.engine.target ∧
    (stageCandidate s).engine.dwell = s.engine.dwell ∧ (stageCandidate s).engine.regime = s.engine.regime ∧
    (stageCandidate s).engine.fallback = s.engine.fallback ∧ (stageCandidate s).engine.baseSpeed = s.engine.baseSpeed ∧
    (stageCandidate s).engine.speedTarget = s.engine.speedTarget ∧
    (stageCandidate s).engine.reliefRequest = s.engine.reliefRequest ∧ (stageCandidate s).engine.reliefCap = s.engine.reliefCap ∧
    (stageCandidate s).engine.wfcRequest = s.engine.wfcRequest ∧ (stageCandidate s).engine.wfcCap = s.engine.wfcCap ∧
    (stageCandidate s).engine.forceBypass = s.engine.forceBypass ∧
    (stageCandidate s).engine.decisionTimer = s.engine.decisionTimer := by
  exact ⟨rfl, rfl, rfl, rfl, rfl, rfl, rfl, rfl, rfl, rfl, rfl, rfl, rfl, rfl, rfl, rfl, rfl, rfl, rfl, rfl, rfl, rfl, rfl,
    rfl, rfl, rfl, rfl⟩

/-- What `stageAvailability` leaves as it is. -/
@[simp] theorem stageAvailability_frame (s : State) :
    (stageAvailability s).startUp = s.startUp ∧ (stageAvailability s).scanner = s.scanner ∧
    (stageAvailability s).rotation = s.rotation ∧ (stageAvailability s).reconciler = s.reconciler ∧
    (stageAvailability s).table = s.table ∧ (stageAvailability s).stagger = s.stagger ∧ (stageAvailability s).bus = s.bus ∧
    (stageAvailability s).responder = s.responder ∧ (stageAvailability s).counters = s.counters ∧
    (stageAvailability s).freeDraws = s.freeDraws ∧ (stageAvailability s).pending = s.pending ∧
    (stageAvailability s).allocator = s.allocator ∧ (stageAvailability s).fan = s.fan ∧ (stageAvailability s).output = s.output ∧
    (stageAvailability s).engine.applied = s.engine.applied ∧ (stageAvailability s).engine.dwell = s.engine.dwell ∧
    (stageAvailability s).engine.regime = s.engine.regime ∧ (stageAvailability s).engine.candidate = s.engine.candidate ∧
    (stageAvailability s).engine.fallback = s.engine.fallback ∧ (stageAvailability s).engine.baseSpeed = s.engine.baseSpeed ∧
    (stageAvailability s).engine.speedTarget = s.engine.speedTarget ∧
    (stageAvailability s).engine.reliefRequest = s.engine.reliefRequest ∧
    (stageAvailability s).engine.reliefCap = s.engine.reliefCap ∧ (stageAvailability s).engine.wfcRequest = s.engine.wfcRequest ∧
    (stageAvailability s).engine.wfcCap = s.engine.wfcCap ∧ (stageAvailability s).engine.forceBypass = s.engine.forceBypass ∧
    (stageAvailability s).engine.decisionTimer = s.engine.decisionTimer := by
  exact ⟨rfl, rfl, rfl, rfl, rfl, rfl, rfl, rfl, rfl, rfl, rfl, rfl, rfl, rfl, rfl, rfl, rfl, rfl, rfl, rfl, rfl, rfl, rfl,
    rfl, rfl, rfl, rfl⟩

/-- What `pulseScanOut` leaves as it is. -/
@[simp] theorem pulseScanOut_frame (s : State) :
    (pulseScanOut s).startUp = s.startUp ∧ (pulseScanOut s).rotation = s.rotation ∧ (pulseScanOut s).reconciler = s.reconciler ∧
    (pulseScanOut s).engine = s.engine ∧ (pulseScanOut s).table = s.table ∧ (pulseScanOut s).allocator = s.allocator ∧
    (pulseScanOut s).stagger = s.stagger ∧ (pulseScanOut s).fan = s.fan ∧ (pulseScanOut s).output = s.output ∧
    (pulseScanOut s).bus = s.bus ∧ (pulseScanOut s).responder = s.responder ∧ (pulseScanOut s).counters = s.counters ∧
    (pulseScanOut s).freeDraws = s.freeDraws ∧ (pulseScanOut s).pending = s.pending ∧
    (pulseScanOut s).scanner.windows = s.scanner.windows ∧ (pulseScanOut s).scanner.scanTimer = s.scanner.scanTimer ∧
    (pulseScanOut s).scanner.scan = s.scanner.scan := by
  exact ⟨rfl, rfl, rfl, rfl, rfl, rfl, rfl, rfl, rfl, rfl, rfl, rfl, rfl, rfl, rfl, rfl, rfl⟩

end Sys2Proof.Machine
end

