-- ==== Sys2Proof/Laws/Ops.lean ====
section
/-! SUPPORT. What the shared operations do: for each one lemma of what it leaves, and below them what the central ones do. -/

namespace Sys2Proof.Machine

/-- What `beginFrame` leaves as it is. -/
@[simp] theorem beginFrame_frame (s : State) :
    (beginFrame s).startUp = s.startUp ∧ (beginFrame s).scanner = s.scanner ∧ (beginFrame s).rotation = s.rotation ∧
    (beginFrame s).reconciler = s.reconciler ∧ (beginFrame s).engine = s.engine ∧ (beginFrame s).table = s.table ∧
    (beginFrame s).allocator = s.allocator ∧ (beginFrame s).stagger = s.stagger ∧ (beginFrame s).fan = s.fan ∧
    (beginFrame s).output = s.output ∧ (beginFrame s).responder = s.responder ∧ (beginFrame s).counters = s.counters ∧
    (beginFrame s).freeDraws = s.freeDraws ∧ (beginFrame s).pending = s.pending ∧
    (beginFrame s).bus.announceSlot = s.bus.announceSlot ∧ (beginFrame s).bus.intentSlot = s.bus.intentSlot ∧
    (beginFrame s).bus.replySlots = s.bus.replySlots ∧ (beginFrame s).bus.remnant = s.bus.remnant ∧
    (beginFrame s).bus.announceTimer = s.bus.announceTimer ∧ (beginFrame s).bus.sequence = s.bus.sequence ∧
    (beginFrame s).bus.lastHeard = s.bus.lastHeard ∧ (beginFrame s).bus.heard = s.bus.heard ∧
    (beginFrame s).bus.clashTimer = s.bus.clashTimer ∧ (beginFrame s).bus.clash = s.bus.clash ∧
    (beginFrame s).bus.stuck = s.bus.stuck := by
  unfold beginFrame; (split <;> try split) <;> simp

/-- What `placeAnnounce` leaves as it is. -/
@[simp] theorem placeAnnounce_frame (f : Frame) (s : State) :
    (placeAnnounce f s).startUp = s.startUp ∧ (placeAnnounce f s).scanner = s.scanner ∧
    (placeAnnounce f s).rotation = s.rotation ∧ (placeAnnounce f s).reconciler = s.reconciler ∧
    (placeAnnounce f s).engine = s.engine ∧ (placeAnnounce f s).table = s.table ∧ (placeAnnounce f s).allocator = s.allocator ∧
    (placeAnnounce f s).stagger = s.stagger ∧ (placeAnnounce f s).fan = s.fan ∧ (placeAnnounce f s).output = s.output ∧
    (placeAnnounce f s).responder = s.responder ∧ (placeAnnounce f s).counters = s.counters ∧
    (placeAnnounce f s).freeDraws = s.freeDraws ∧ (placeAnnounce f s).pending = s.pending ∧
    (placeAnnounce f s).bus.intentSlot = s.bus.intentSlot ∧ (placeAnnounce f s).bus.replySlots = s.bus.replySlots ∧
    (placeAnnounce f s).bus.remnant = s.bus.remnant ∧ (placeAnnounce f s).bus.announceTimer = s.bus.announceTimer ∧
    (placeAnnounce f s).bus.sequence = s.bus.sequence ∧ (placeAnnounce f s).bus.lastHeard = s.bus.lastHeard ∧
    (placeAnnounce f s).bus.heard = s.bus.heard ∧ (placeAnnounce f s).bus.clashTimer = s.bus.clashTimer ∧
    (placeAnnounce f s).bus.clash = s.bus.clash ∧ (placeAnnounce f s).bus.stuck = s.bus.stuck := by
  simp [placeAnnounce]

/-- What `placeIntent` leaves as it is. -/
@[simp] theorem placeIntent_frame (f : Frame) (s : State) :
    (placeIntent f s).startUp = s.startUp ∧ (placeIntent f s).scanner = s.scanner ∧ (placeIntent f s).rotation = s.rotation ∧
    (placeIntent f s).reconciler = s.reconciler ∧ (placeIntent f s).engine = s.engine ∧ (placeIntent f s).table = s.table ∧
    (placeIntent f s).allocator = s.allocator ∧ (placeIntent f s).stagger = s.stagger ∧ (placeIntent f s).fan = s.fan ∧
    (placeIntent f s).output = s.output ∧ (placeIntent f s).responder = s.responder ∧ (placeIntent f s).counters = s.counters ∧
    (placeIntent f s).freeDraws = s.freeDraws ∧ (placeIntent f s).pending = s.pending ∧
    (placeIntent f s).bus.announceSlot = s.bus.announceSlot ∧ (placeIntent f s).bus.replySlots = s.bus.replySlots ∧
    (placeIntent f s).bus.remnant = s.bus.remnant ∧ (placeIntent f s).bus.announceTimer = s.bus.announceTimer ∧
    (placeIntent f s).bus.sequence = s.bus.sequence ∧ (placeIntent f s).bus.lastHeard = s.bus.lastHeard ∧
    (placeIntent f s).bus.heard = s.bus.heard ∧ (placeIntent f s).bus.clashTimer = s.bus.clashTimer ∧
    (placeIntent f s).bus.clash = s.bus.clash ∧ (placeIntent f s).bus.stuck = s.bus.stuck := by
  simp [placeIntent]

/-- What `placeReply` leaves as it is. -/
@[simp] theorem placeReply_frame (f : Frame) (s : State) :
    (placeReply f s).startUp = s.startUp ∧ (placeReply f s).scanner = s.scanner ∧ (placeReply f s).rotation = s.rotation ∧
    (placeReply f s).reconciler = s.reconciler ∧ (placeReply f s).engine = s.engine ∧ (placeReply f s).table = s.table ∧
    (placeReply f s).allocator = s.allocator ∧ (placeReply f s).stagger = s.stagger ∧ (placeReply f s).fan = s.fan ∧
    (placeReply f s).output = s.output ∧ (placeReply f s).responder = s.responder ∧ (placeReply f s).counters = s.counters ∧
    (placeReply f s).freeDraws = s.freeDraws ∧ (placeReply f s).pending = s.pending ∧
    (placeReply f s).bus.announceSlot = s.bus.announceSlot ∧ (placeReply f s).bus.intentSlot = s.bus.intentSlot ∧
    (placeReply f s).bus.remnant = s.bus.remnant ∧ (placeReply f s).bus.announceTimer = s.bus.announceTimer ∧
    (placeReply f s).bus.sequence = s.bus.sequence ∧ (placeReply f s).bus.lastHeard = s.bus.lastHeard ∧
    (placeReply f s).bus.heard = s.bus.heard ∧ (placeReply f s).bus.clashTimer = s.bus.clashTimer ∧
    (placeReply f s).bus.clash = s.bus.clash ∧ (placeReply f s).bus.stuck = s.bus.stuck := by
  simp [placeReply]

/-- What `startPending` leaves as it is. -/
@[simp] theorem startPending_frame (k : ChangeKind) (s : State) :
    (startPending k s).startUp = s.startUp ∧ (startPending k s).scanner = s.scanner ∧ (startPending k s).rotation = s.rotation ∧
    (startPending k s).reconciler = s.reconciler ∧ (startPending k s).engine = s.engine ∧ (startPending k s).table = s.table ∧
    (startPending k s).allocator = s.allocator ∧ (startPending k s).fan = s.fan ∧ (startPending k s).output = s.output ∧
    (startPending k s).responder = s.responder ∧ (startPending k s).counters = s.counters ∧
    (startPending k s).freeDraws = s.freeDraws ∧ (startPending k s).pending = s.pending ∧
    (startPending k s).bus.announceSlot = s.bus.announceSlot ∧ (startPending k s).bus.replySlots = s.bus.replySlots ∧
    (startPending k s).bus.remnant = s.bus.remnant ∧ (startPending k s).bus.announceTimer = s.bus.announceTimer ∧
    (startPending k s).bus.sequence = s.bus.sequence ∧ (startPending k s).bus.lastHeard = s.bus.lastHeard ∧
    (startPending k s).bus.heard = s.bus.heard ∧ (startPending k s).bus.clashTimer = s.bus.clashTimer ∧
    (startPending k s).bus.clash = s.bus.clash ∧ (startPending k s).bus.stuck = s.bus.stuck := by
  simp [startPending]

/-- What `cancelPending` leaves as it is. -/
@[simp] theorem cancelPending_frame (s : State) :
    (cancelPending s).startUp = s.startUp ∧ (cancelPending s).scanner = s.scanner ∧ (cancelPending s).rotation = s.rotation ∧
    (cancelPending s).reconciler = s.reconciler ∧ (cancelPending s).engine = s.engine ∧ (cancelPending s).table = s.table ∧
    (cancelPending s).allocator = s.allocator ∧ (cancelPending s).fan = s.fan ∧ (cancelPending s).output = s.output ∧
    (cancelPending s).responder = s.responder ∧ (cancelPending s).counters = s.counters ∧
    (cancelPending s).freeDraws = s.freeDraws ∧ (cancelPending s).pending = s.pending ∧
    (cancelPending s).bus.receiver = s.bus.receiver ∧ (cancelPending s).bus.transmitter = s.bus.transmitter ∧
    (cancelPending s).bus.announceSlot = s.bus.announceSlot ∧ (cancelPending s).bus.replySlots = s.bus.replySlots ∧
    (cancelPending s).bus.remnant = s.bus.remnant ∧ (cancelPending s).bus.announceTimer = s.bus.announceTimer ∧
    (cancelPending s).bus.sequence = s.bus.sequence ∧ (cancelPending s).bus.lastHeard = s.bus.lastHeard ∧
    (cancelPending s).bus.heard = s.bus.heard ∧ (cancelPending s).bus.clashTimer = s.bus.clashTimer ∧
    (cancelPending s).bus.clash = s.bus.clash ∧ (cancelPending s).bus.stuck = s.bus.stuck := by
  unfold cancelPending; repeat' (first | (simp; done) | split)

/-- What `setCommand` leaves as it is. -/
@[simp] theorem setCommand_frame (d : Damper) (v : Nat) (s : State) :
    (setCommand d v s).startUp = s.startUp ∧ (setCommand d v s).scanner = s.scanner ∧ (setCommand d v s).rotation = s.rotation ∧
    (setCommand d v s).reconciler = s.reconciler ∧ (setCommand d v s).engine = s.engine ∧ (setCommand d v s).table = s.table ∧
    (setCommand d v s).allocator = s.allocator ∧ (setCommand d v s).stagger = s.stagger ∧ (setCommand d v s).fan = s.fan ∧
    (setCommand d v s).bus = s.bus ∧ (setCommand d v s).responder = s.responder ∧ (setCommand d v s).counters = s.counters ∧
    (setCommand d v s).freeDraws = s.freeDraws ∧ (setCommand d v s).pending = s.pending ∧
    (setCommand d v s).output.wheel = s.output.wheel ∧ (setCommand d v s).output.idle = s.output.idle ∧
    (setCommand d v s).output.purge = s.output.purge ∧ (setCommand d v s).output.wanted = s.output.wanted ∧
    (setCommand d v s).output.test = s.output.test ∧ (setCommand d v s).output.wheelSpd = s.output.wheelSpd ∧
    (setCommand d v s).output.wfcPos = s.output.wfcPos ∧ (setCommand d v s).output.wheelRun = s.output.wheelRun ∧
    (setCommand d v s).output.bypass.outcome = s.output.bypass.outcome ∧
    (setCommand d v s).output.bypass.mismatches = s.output.bypass.mismatches ∧
    (setCommand d v s).output.outdoor.outcome = s.output.outdoor.outcome ∧
    (setCommand d v s).output.outdoor.mismatches = s.output.outdoor.mismatches := by
  unfold setCommand; cases d <;> (split <;> simp [Output.setDamper, Output.damper])

/-- What `driveDampers` leaves as it is. -/
@[simp] theorem driveDampers_frame (s : State) :
    (driveDampers s).startUp = s.startUp ∧ (driveDampers s).scanner = s.scanner ∧ (driveDampers s).rotation = s.rotation ∧
    (driveDampers s).reconciler = s.reconciler ∧ (driveDampers s).engine = s.engine ∧ (driveDampers s).table = s.table ∧
    (driveDampers s).allocator = s.allocator ∧ (driveDampers s).stagger = s.stagger ∧ (driveDampers s).fan = s.fan ∧
    (driveDampers s).bus = s.bus ∧ (driveDampers s).responder = s.responder ∧ (driveDampers s).counters = s.counters ∧
    (driveDampers s).freeDraws = s.freeDraws ∧ (driveDampers s).pending = s.pending ∧
    (driveDampers s).output.wheel = s.output.wheel ∧ (driveDampers s).output.idle = s.output.idle ∧
    (driveDampers s).output.purge = s.output.purge ∧ (driveDampers s).output.wanted = s.output.wanted ∧
    (driveDampers s).output.test = s.output.test ∧ (driveDampers s).output.wheelSpd = s.output.wheelSpd ∧
    (driveDampers s).output.wfcPos = s.output.wfcPos ∧ (driveDampers s).output.wheelRun = s.output.wheelRun ∧
    (driveDampers s).output.bypass.outcome = s.output.bypass.outcome ∧
    (driveDampers s).output.bypass.mismatches = s.output.bypass.mismatches ∧
    (driveDampers s).output.outdoor.outcome = s.output.outdoor.outcome ∧
    (driveDampers s).output.outdoor.mismatches = s.output.outdoor.mismatches := by
  unfold driveDampers; split <;> simp

/-- What `driveValve` leaves as it is. -/
@[simp] theorem driveValve_frame (s : State) :
    (driveValve s).startUp = s.startUp ∧ (driveValve s).scanner = s.scanner ∧ (driveValve s).rotation = s.rotation ∧
    (driveValve s).reconciler = s.reconciler ∧ (driveValve s).engine = s.engine ∧ (driveValve s).table = s.table ∧
    (driveValve s).allocator = s.allocator ∧ (driveValve s).stagger = s.stagger ∧ (driveValve s).fan = s.fan ∧
    (driveValve s).bus = s.bus ∧ (driveValve s).responder = s.responder ∧ (driveValve s).counters = s.counters ∧
    (driveValve s).freeDraws = s.freeDraws ∧ (driveValve s).pending = s.pending ∧ (driveValve s).output.wheel = s.output.wheel ∧
    (driveValve s).output.idle = s.output.idle ∧ (driveValve s).output.purge = s.output.purge ∧
    (driveValve s).output.wanted = s.output.wanted ∧ (driveValve s).output.bypass = s.output.bypass ∧
    (driveValve s).output.outdoor = s.output.outdoor ∧ (driveValve s).output.test = s.output.test ∧
    (driveValve s).output.wheelSpd = s.output.wheelSpd ∧ (driveValve s).output.wheelRun = s.output.wheelRun := by
  unfold driveValve; repeat' (first | (simp; done) | split)

/-- What `followSpeed` leaves as it is. -/
@[simp] theorem followSpeed_frame (s : State) :
    (followSpeed s).startUp = s.startUp ∧ (followSpeed s).scanner = s.scanner ∧ (followSpeed s).rotation = s.rotation ∧
    (followSpeed s).reconciler = s.reconciler ∧ (followSpeed s).engine = s.engine ∧ (followSpeed s).table = s.table ∧
    (followSpeed s).allocator = s.allocator ∧ (followSpeed s).stagger = s.stagger ∧ (followSpeed s).fan = s.fan ∧
    (followSpeed s).bus = s.bus ∧ (followSpeed s).responder = s.responder ∧ (followSpeed s).counters = s.counters ∧
    (followSpeed s).freeDraws = s.freeDraws ∧ (followSpeed s).pending = s.pending ∧
    (followSpeed s).output.wheel = s.output.wheel ∧ (followSpeed s).output.idle = s.output.idle ∧
    (followSpeed s).output.purge = s.output.purge ∧ (followSpeed s).output.wanted = s.output.wanted ∧
    (followSpeed s).output.bypass = s.output.bypass ∧ (followSpeed s).output.outdoor = s.output.outdoor ∧
    (followSpeed s).output.test = s.output.test ∧ (followSpeed s).output.wfcPos = s.output.wfcPos ∧
    (followSpeed s).output.wheelRun = s.output.wheelRun := by
  unfold followSpeed; repeat' (first | (simp; done) | split)

/-- What `wheelFollows` leaves as it is. -/
@[simp] theorem wheelFollows_frame (m : Mode) (s : State) :
    (wheelFollows m s).startUp = s.startUp ∧ (wheelFollows m s).scanner = s.scanner ∧
    (wheelFollows m s).reconciler = s.reconciler ∧ (wheelFollows m s).engine = s.engine ∧ (wheelFollows m s).table = s.table ∧
    (wheelFollows m s).allocator = s.allocator ∧ (wheelFollows m s).stagger = s.stagger ∧ (wheelFollows m s).fan = s.fan ∧
    (wheelFollows m s).bus = s.bus ∧ (wheelFollows m s).counters = s.counters ∧ (wheelFollows m s).freeDraws = s.freeDraws ∧
    (wheelFollows m s).pending = s.pending ∧ (wheelFollows m s).output.wanted = s.output.wanted ∧
    (wheelFollows m s).output.bypass = s.output.bypass ∧ (wheelFollows m s).output.outdoor = s.output.outdoor ∧
    (wheelFollows m s).output.test = s.output.test ∧ (wheelFollows m s).output.wfcPos = s.output.wfcPos ∧
    (wheelFollows m s).responder.sticky = s.responder.sticky := by
  unfold wheelFollows; repeat' (first | (simp; done) | split)

/-- What `applyMode` leaves as it is. -/
@[simp] theorem applyMode_frame (m : Mode) (s : State) :
    (applyMode m s).startUp = s.startUp ∧ (applyMode m s).scanner = s.scanner ∧ (applyMode m s).reconciler = s.reconciler ∧
    (applyMode m s).table = s.table ∧ (applyMode m s).allocator = s.allocator ∧ (applyMode m s).stagger = s.stagger ∧
    (applyMode m s).fan = s.fan ∧ (applyMode m s).bus = s.bus ∧ (applyMode m s).counters = s.counters ∧
    (applyMode m s).freeDraws = s.freeDraws ∧ (applyMode m s).pending = s.pending ∧
    (applyMode m s).engine.target = s.engine.target ∧ (applyMode m s).engine.dwell = s.engine.dwell ∧
    (applyMode m s).engine.regime = s.engine.regime ∧ (applyMode m s).engine.candidate = s.engine.candidate ∧
    (applyMode m s).engine.fallback = s.engine.fallback ∧ (applyMode m s).engine.baseSpeed = s.engine.baseSpeed ∧
    (applyMode m s).engine.speedTarget = s.engine.speedTarget ∧ (applyMode m s).engine.reliefRequest = s.engine.reliefRequest ∧
    (applyMode m s).engine.reliefCap = s.engine.reliefCap ∧ (applyMode m s).engine.wfcRequest = s.engine.wfcRequest ∧
    (applyMode m s).engine.wfcCap = s.engine.wfcCap ∧ (applyMode m s).engine.forceBypass = s.engine.forceBypass ∧
    (applyMode m s).engine.decisionTimer = s.engine.decisionTimer ∧ (applyMode m s).output.wanted = s.output.wanted ∧
    (applyMode m s).output.test = s.output.test ∧ (applyMode m s).output.wfcPos = s.output.wfcPos ∧
    (applyMode m s).responder.sticky = s.responder.sticky ∧ (applyMode m s).output.bypass.outcome = s.output.bypass.outcome ∧
    (applyMode m s).output.bypass.mismatches = s.output.bypass.mismatches ∧
    (applyMode m s).output.outdoor.outcome = s.output.outdoor.outcome ∧
    (applyMode m s).output.outdoor.mismatches = s.output.outdoor.mismatches := by
  unfold applyMode; repeat' (first | (simp; done) | split)

/-- What `evaluateFan` leaves as it is. -/
@[simp] theorem evaluateFan_frame (s : State) :
    (evaluateFan s).startUp = s.startUp ∧ (evaluateFan s).scanner = s.scanner ∧ (evaluateFan s).rotation = s.rotation ∧
    (evaluateFan s).reconciler = s.reconciler ∧ (evaluateFan s).engine = s.engine ∧ (evaluateFan s).table = s.table ∧
    (evaluateFan s).allocator = s.allocator ∧ (evaluateFan s).stagger = s.stagger ∧ (evaluateFan s).output = s.output ∧
    (evaluateFan s).bus = s.bus ∧ (evaluateFan s).responder = s.responder ∧ (evaluateFan s).counters = s.counters ∧
    (evaluateFan s).freeDraws = s.freeDraws ∧ (evaluateFan s).pending = s.pending := by
  unfold evaluateFan; repeat' (first | (simp; done) | split)

/-- What `resumeFan` leaves as it is. -/
@[simp] theorem resumeFan_frame (s : State) :
    (resumeFan s).startUp = s.startUp ∧ (resumeFan s).scanner = s.scanner ∧ (resumeFan s).rotation = s.rotation ∧
    (resumeFan s).reconciler = s.reconciler ∧ (resumeFan s).engine = s.engine ∧ (resumeFan s).table = s.table ∧
    (resumeFan s).allocator = s.allocator ∧ (resumeFan s).stagger = s.stagger ∧ (resumeFan s).output = s.output ∧
    (resumeFan s).bus = s.bus ∧ (resumeFan s).responder = s.responder ∧ (resumeFan s).counters = s.counters ∧
    (resumeFan s).freeDraws = s.freeDraws ∧ (resumeFan s).pending = s.pending := by
  simp [resumeFan]

/-- What `fanFollows` leaves as it is. -/
@[simp] theorem fanFollows_frame (s : State) :
    (fanFollows s).startUp = s.startUp ∧ (fanFollows s).scanner = s.scanner ∧ (fanFollows s).rotation = s.rotation ∧
    (fanFollows s).reconciler = s.reconciler ∧ (fanFollows s).engine = s.engine ∧ (fanFollows s).table = s.table ∧
    (fanFollows s).allocator = s.allocator ∧ (fanFollows s).stagger = s.stagger ∧ (fanFollows s).output = s.output ∧
    (fanFollows s).bus = s.bus ∧ (fanFollows s).responder = s.responder ∧ (fanFollows s).counters = s.counters ∧
    (fanFollows s).freeDraws = s.freeDraws ∧ (fanFollows s).pending = s.pending := by
  unfold fanFollows; repeat' (first | (simp; done) | split)

/-- What `activateFan` leaves as it is. -/
@[simp] theorem activateFan_frame (s : State) :
    (activateFan s).startUp = s.startUp ∧ (activateFan s).scanner = s.scanner ∧ (activateFan s).rotation = s.rotation ∧
    (activateFan s).reconciler = s.reconciler ∧ (activateFan s).engine = s.engine ∧ (activateFan s).table = s.table ∧
    (activateFan s).allocator = s.allocator ∧ (activateFan s).stagger = s.stagger ∧ (activateFan s).output = s.output ∧
    (activateFan s).bus = s.bus ∧ (activateFan s).responder = s.responder ∧ (activateFan s).counters = s.counters ∧
    (activateFan s).freeDraws = s.freeDraws ∧ (activateFan s).pending = s.pending := by
  unfold activateFan; repeat' (first | (simp; done) | split)

/-- What `forcedChange` leaves as it is. -/
@[simp] theorem forcedChange_frame (s : State) :
    (forcedChange s).startUp = s.startUp ∧ (forcedChange s).scanner = s.scanner ∧ (forcedChange s).reconciler = s.reconciler ∧
    (forcedChange s).table = s.table ∧ (forcedChange s).allocator = s.allocator ∧ (forcedChange s).fan = s.fan ∧
    (forcedChange s).counters = s.counters ∧ (forcedChange s).freeDraws = s.freeDraws ∧ (forcedChange s).pending = s.pending ∧
    (forcedChange s).engine.regime = s.engine.regime ∧ (forcedChange s).engine.candidate = s.engine.candidate ∧
    (forcedChange s).engine.fallback = s.engine.fallback ∧ (forcedChange s).engine.baseSpeed = s.engine.baseSpeed ∧
    (forcedChange s).engine.speedTarget = s.engine.speedTarget ∧ (forcedChange s).engine.reliefRequest = s.engine.reliefRequest ∧
    (forcedChange s).engine.reliefCap = s.engine.reliefCap ∧ (forcedChange s).engine.wfcRequest = s.engine.wfcRequest ∧
    (forcedChange s).engine.wfcCap = s.engine.wfcCap ∧ (forcedChange s).engine.forceBypass = s.engine.forceBypass ∧
    (forcedChange s).engine.decisionTimer = s.engine.decisionTimer ∧ (forcedChange s).output.wanted = s.output.wanted ∧
    (forcedChange s).output.test = s.output.test ∧ (forcedChange s).output.wfcPos = s.output.wfcPos ∧
    (forcedChange s).bus.receiver = s.bus.receiver ∧ (forcedChange s).bus.transmitter = s.bus.transmitter ∧
    (forcedChange s).bus.announceSlot = s.bus.announceSlot ∧ (forcedChange s).bus.replySlots = s.bus.replySlots ∧
    (forcedChange s).bus.remnant = s.bus.remnant ∧ (forcedChange s).bus.announceTimer = s.bus.announceTimer ∧
    (forcedChange s).bus.sequence = s.bus.sequence ∧ (forcedChange s).bus.lastHeard = s.bus.lastHeard ∧
    (forcedChange s).bus.heard = s.bus.heard ∧ (forcedChange s).bus.clashTimer = s.bus.clashTimer ∧
    (forcedChange s).bus.clash = s.bus.clash ∧ (forcedChange s).bus.stuck = s.bus.stuck ∧
    (forcedChange s).responder.sticky = s.responder.sticky ∧ (forcedChange s).output.bypass.outcome = s.output.bypass.outcome ∧
    (forcedChange s).output.bypass.mismatches = s.output.bypass.mismatches ∧
    (forcedChange s).output.outdoor.outcome = s.output.outdoor.outcome ∧
    (forcedChange s).output.outdoor.mismatches = s.output.outdoor.mismatches := by
  unfold forcedChange; repeat' (first | (simp; done) | split)

/-- What `holdTest` leaves as it is. -/
@[simp] theorem holdTest_frame (s : State) :
    (holdTest s).startUp = s.startUp ∧ (holdTest s).scanner = s.scanner ∧ (holdTest s).reconciler = s.reconciler ∧
    (holdTest s).table = s.table ∧ (holdTest s).allocator = s.allocator ∧ (holdTest s).fan = s.fan ∧
    (holdTest s).counters = s.counters ∧ (holdTest s).freeDraws = s.freeDraws ∧ (holdTest s).pending = s.pending ∧
    (holdTest s).engine.regime = s.engine.regime ∧ (holdTest s).engine.candidate = s.engine.candidate ∧
    (holdTest s).engine.fallback = s.engine.fallback ∧ (holdTest s).engine.baseSpeed = s.engine.baseSpeed ∧
    (holdTest s).engine.speedTarget = s.engine.speedTarget ∧ (holdTest s).engine.reliefRequest = s.engine.reliefRequest ∧
    (holdTest s).engine.reliefCap = s.engine.reliefCap ∧ (holdTest s).engine.wfcRequest = s.engine.wfcRequest ∧
    (holdTest s).engine.wfcCap = s.engine.wfcCap ∧ (holdTest s).engine.forceBypass = s.engine.forceBypass ∧
    (holdTest s).engine.decisionTimer = s.engine.decisionTimer ∧ (holdTest s).output.wanted = s.output.wanted ∧
    (holdTest s).output.test = s.output.test ∧ (holdTest s).output.wfcPos = s.output.wfcPos ∧
    (holdTest s).bus.receiver = s.bus.receiver ∧ (holdTest s).bus.transmitter = s.bus.transmitter ∧
    (holdTest s).bus.announceSlot = s.bus.announceSlot ∧ (holdTest s).bus.replySlots = s.bus.replySlots ∧
    (holdTest s).bus.remnant = s.bus.remnant ∧ (holdTest s).bus.announceTimer = s.bus.announceTimer ∧
    (holdTest s).bus.sequence = s.bus.sequence ∧ (holdTest s).bus.lastHeard = s.bus.lastHeard ∧
    (holdTest s).bus.heard = s.bus.heard ∧ (holdTest s).bus.clashTimer = s.bus.clashTimer ∧
    (holdTest s).bus.clash = s.bus.clash ∧ (holdTest s).bus.stuck = s.bus.stuck ∧
    (holdTest s).responder.sticky = s.responder.sticky ∧ (holdTest s).output.bypass.outcome = s.output.bypass.outcome ∧
    (holdTest s).output.bypass.mismatches = s.output.bypass.mismatches ∧
    (holdTest s).output.outdoor.outcome = s.output.outdoor.outcome ∧
    (holdTest s).output.outdoor.mismatches = s.output.outdoor.mismatches := by
  unfold holdTest; repeat' (first | (simp; done) | split)

/-- What `handOnGrant` leaves as it is. -/
@[simp] theorem handOnGrant_frame (b : Budget) (s : State) :
    (handOnGrant b s).startUp = s.startUp ∧ (handOnGrant b s).scanner = s.scanner ∧ (handOnGrant b s).reconciler = s.reconciler ∧
    (handOnGrant b s).table = s.table ∧ (handOnGrant b s).allocator = s.allocator ∧ (handOnGrant b s).counters = s.counters ∧
    (handOnGrant b s).freeDraws = s.freeDraws ∧ (handOnGrant b s).pending = s.pending ∧
    (handOnGrant b s).engine.regime = s.engine.regime ∧ (handOnGrant b s).engine.candidate = s.engine.candidate ∧
    (handOnGrant b s).engine.fallback = s.engine.fallback ∧ (handOnGrant b s).engine.baseSpeed = s.engine.baseSpeed ∧
    (handOnGrant b s).engine.speedTarget = s.engine.speedTarget ∧
    (handOnGrant b s).engine.reliefRequest = s.engine.reliefRequest ∧ (handOnGrant b s).engine.reliefCap = s.engine.reliefCap ∧
    (handOnGrant b s).engine.wfcRequest = s.engine.wfcRequest ∧ (handOnGrant b s).engine.wfcCap = s.engine.wfcCap ∧
    (handOnGrant b s).engine.forceBypass = s.engine.forceBypass ∧
    (handOnGrant b s).engine.decisionTimer = s.engine.decisionTimer ∧ (handOnGrant b s).output.wanted = s.output.wanted ∧
    (handOnGrant b s).output.test = s.output.test ∧ (handOnGrant b s).bus.receiver = s.bus.receiver ∧
    (handOnGrant b s).bus.transmitter = s.bus.transmitter ∧ (handOnGrant b s).bus.announceSlot = s.bus.announceSlot ∧
    (handOnGrant b s).bus.replySlots = s.bus.replySlots ∧ (handOnGrant b s).bus.remnant = s.bus.remnant ∧
    (handOnGrant b s).bus.announceTimer = s.bus.announceTimer ∧ (handOnGrant b s).bus.sequence = s.bus.sequence ∧
    (handOnGrant b s).bus.lastHeard = s.bus.lastHeard ∧ (handOnGrant b s).bus.heard = s.bus.heard ∧
    (handOnGrant b s).bus.clashTimer = s.bus.clashTimer ∧ (handOnGrant b s).bus.clash = s.bus.clash ∧
    (handOnGrant b s).bus.stuck = s.bus.stuck ∧ (handOnGrant b s).responder.sticky = s.responder.sticky ∧
    (handOnGrant b s).output.bypass.outcome = s.output.bypass.outcome ∧
    (handOnGrant b s).output.bypass.mismatches = s.output.bypass.mismatches ∧
    (handOnGrant b s).output.outdoor.outcome = s.output.outdoor.outcome ∧
    (handOnGrant b s).output.outdoor.mismatches = s.output.outdoor.mismatches := by
  cases b <;> simp [handOnGrant]

/-- What `reduceGrant` leaves as it is. -/
@[simp] theorem reduceGrant_frame (b : Budget) (s : State) :
    (reduceGrant b s).startUp = s.startUp ∧ (reduceGrant b s).scanner = s.scanner ∧ (reduceGrant b s).reconciler = s.reconciler ∧
    (reduceGrant b s).table = s.table ∧ (reduceGrant b s).counters = s.counters ∧ (reduceGrant b s).freeDraws = s.freeDraws ∧
    (reduceGrant b s).pending = s.pending ∧ (reduceGrant b s).engine.regime = s.engine.regime ∧
    (reduceGrant b s).engine.candidate = s.engine.candidate ∧ (reduceGrant b s).engine.fallback = s.engine.fallback ∧
    (reduceGrant b s).engine.baseSpeed = s.engine.baseSpeed ∧ (reduceGrant b s).engine.speedTarget = s.engine.speedTarget ∧
    (reduceGrant b s).engine.reliefRequest = s.engine.reliefRequest ∧ (reduceGrant b s).engine.reliefCap = s.engine.reliefCap ∧
    (reduceGrant b s).engine.wfcRequest = s.engine.wfcRequest ∧ (reduceGrant b s).engine.wfcCap = s.engine.wfcCap ∧
    (reduceGrant b s).engine.forceBypass = s.engine.forceBypass ∧
    (reduceGrant b s).engine.decisionTimer = s.engine.decisionTimer ∧ (reduceGrant b s).output.wanted = s.output.wanted ∧
    (reduceGrant b s).output.test = s.output.test ∧ (reduceGrant b s).bus.receiver = s.bus.receiver ∧
    (reduceGrant b s).bus.transmitter = s.bus.transmitter ∧ (reduceGrant b s).bus.announceSlot = s.bus.announceSlot ∧
    (reduceGrant b s).bus.replySlots = s.bus.replySlots ∧ (reduceGrant b s).bus.remnant = s.bus.remnant ∧
    (reduceGrant b s).bus.announceTimer = s.bus.announceTimer ∧ (reduceGrant b s).bus.sequence = s.bus.sequence ∧
    (reduceGrant b s).bus.lastHeard = s.bus.lastHeard ∧ (reduceGrant b s).bus.heard = s.bus.heard ∧
    (reduceGrant b s).bus.clashTimer = s.bus.clashTimer ∧ (reduceGrant b s).bus.clash = s.bus.clash ∧
    (reduceGrant b s).bus.stuck = s.bus.stuck ∧ (reduceGrant b s).responder.sticky = s.responder.sticky ∧
    (reduceGrant b s).output.bypass.outcome = s.output.bypass.outcome ∧
    (reduceGrant b s).output.bypass.mismatches = s.output.bypass.mismatches ∧
    (reduceGrant b s).output.outdoor.outcome = s.output.outdoor.outcome ∧
    (reduceGrant b s).output.outdoor.mismatches = s.output.outdoor.mismatches := by
  unfold reduceGrant; dsimp only; split <;> simp

/-- What `allocate` leaves as it is. -/
@[simp] theorem allocate_frame (b : Budget) (s : State) :
    (allocate b s).startUp = s.startUp ∧ (allocate b s).scanner = s.scanner ∧ (allocate b s).reconciler = s.reconciler ∧
    (allocate b s).table = s.table ∧ (allocate b s).counters = s.counters ∧ (allocate b s).freeDraws = s.freeDraws ∧
    (allocate b s).pending = s.pending ∧ (allocate b s).engine.regime = s.engine.regime ∧
    (allocate b s).engine.candidate = s.engine.candidate ∧ (allocate b s).engine.fallback = s.engine.fallback ∧
    (allocate b s).engine.baseSpeed = s.engine.baseSpeed ∧ (allocate b s).engine.speedTarget = s.engine.speedTarget ∧
    (allocate b s).engine.reliefRequest = s.engine.reliefRequest ∧ (allocate b s).engine.reliefCap = s.engine.reliefCap ∧
    (allocate b s).engine.wfcRequest = s.engine.wfcRequest ∧ (allocate b s).engine.wfcCap = s.engine.wfcCap ∧
    (allocate b s).engine.forceBypass = s.engine.forceBypass ∧ (allocate b s).engine.decisionTimer = s.engine.decisionTimer ∧
    (allocate b s).output.wanted = s.output.wanted ∧ (allocate b s).output.test = s.output.test ∧
    (allocate b s).bus.receiver = s.bus.receiver ∧ (allocate b s).bus.transmitter = s.bus.transmitter ∧
    (allocate b s).bus.announceSlot = s.bus.announceSlot ∧ (allocate b s).bus.replySlots = s.bus.replySlots ∧
    (allocate b s).bus.remnant = s.bus.remnant ∧ (allocate b s).bus.announceTimer = s.bus.announceTimer ∧
    (allocate b s).bus.sequence = s.bus.sequence ∧ (allocate b s).bus.lastHeard = s.bus.lastHeard ∧
    (allocate b s).bus.heard = s.bus.heard ∧ (allocate b s).bus.clashTimer = s.bus.clashTimer ∧
    (allocate b s).bus.clash = s.bus.clash ∧ (allocate b s).bus.stuck = s.bus.stuck ∧
    (allocate b s).responder.sticky = s.responder.sticky ∧ (allocate b s).output.bypass.outcome = s.output.bypass.outcome ∧
    (allocate b s).output.bypass.mismatches = s.output.bypass.mismatches ∧
    (allocate b s).output.outdoor.outcome = s.output.outdoor.outcome ∧
    (allocate b s).output.outdoor.mismatches = s.output.outdoor.mismatches := by
  simp [allocate]

/-- What `allocateBoth` leaves as it is. -/
@[simp] theorem allocateBoth_frame (s : State) :
    (allocateBoth s).startUp = s.startUp ∧ (allocateBoth s).scanner = s.scanner ∧ (allocateBoth s).reconciler = s.reconciler ∧
    (allocateBoth s).table = s.table ∧ (allocateBoth s).counters = s.counters ∧ (allocateBoth s).freeDraws = s.freeDraws ∧
    (allocateBoth s).pending = s.pending ∧ (allocateBoth s).engine.regime = s.engine.regime ∧
    (allocateBoth s).engine.candidate = s.engine.candidate ∧ (allocateBoth s).engine.fallback = s.engine.fallback ∧
    (allocateBoth s).engine.baseSpeed = s.engine.baseSpeed ∧ (allocateBoth s).engine.speedTarget = s.engine.speedTarget ∧
    (allocateBoth s).engine.reliefRequest = s.engine.reliefRequest ∧ (allocateBoth s).engine.reliefCap = s.engine.reliefCap ∧
    (allocateBoth s).engine.wfcRequest = s.engine.wfcRequest ∧ (allocateBoth s).engine.wfcCap = s.engine.wfcCap ∧
    (allocateBoth s).engine.forceBypass = s.engine.forceBypass ∧ (allocateBoth s).engine.decisionTimer = s.engine.decisionTimer ∧
    (allocateBoth s).output.wanted = s.output.wanted ∧ (allocateBoth s).output.test = s.output.test ∧
    (allocateBoth s).bus.receiver = s.bus.receiver ∧ (allocateBoth s).bus.transmitter = s.bus.transmitter ∧
    (allocateBoth s).bus.announceSlot = s.bus.announceSlot ∧ (allocateBoth s).bus.replySlots = s.bus.replySlots ∧
    (allocateBoth s).bus.remnant = s.bus.remnant ∧ (allocateBoth s).bus.announceTimer = s.bus.announceTimer ∧
    (allocateBoth s).bus.sequence = s.bus.sequence ∧ (allocateBoth s).bus.lastHeard = s.bus.lastHeard ∧
    (allocateBoth s).bus.heard = s.bus.heard ∧ (allocateBoth s).bus.clashTimer = s.bus.clashTimer ∧
    (allocateBoth s).bus.clash = s.bus.clash ∧ (allocateBoth s).bus.stuck = s.bus.stuck ∧
    (allocateBoth s).responder.sticky = s.responder.sticky ∧ (allocateBoth s).output.bypass.outcome = s.output.bypass.outcome ∧
    (allocateBoth s).output.bypass.mismatches = s.output.bypass.mismatches ∧
    (allocateBoth s).output.outdoor.outcome = s.output.outdoor.outcome ∧
    (allocateBoth s).output.outdoor.mismatches = s.output.outdoor.mismatches := by
  simp [allocateBoth]

/-- What `zeroGrant` leaves as it is. -/
@[simp] theorem zeroGrant_frame (b : Budget) (s : State) :
    (zeroGrant b s).startUp = s.startUp ∧ (zeroGrant b s).scanner = s.scanner ∧ (zeroGrant b s).reconciler = s.reconciler ∧
    (zeroGrant b s).table = s.table ∧ (zeroGrant b s).counters = s.counters ∧ (zeroGrant b s).freeDraws = s.freeDraws ∧
    (zeroGrant b s).pending = s.pending ∧ (zeroGrant b s).engine.regime = s.engine.regime ∧
    (zeroGrant b s).engine.candidate = s.engine.candidate ∧ (zeroGrant b s).engine.fallback = s.engine.fallback ∧
    (zeroGrant b s).engine.baseSpeed = s.engine.baseSpeed ∧ (zeroGrant b s).engine.speedTarget = s.engine.speedTarget ∧
    (zeroGrant b s).engine.reliefRequest = s.engine.reliefRequest ∧ (zeroGrant b s).engine.reliefCap = s.engine.reliefCap ∧
    (zeroGrant b s).engine.wfcRequest = s.engine.wfcRequest ∧ (zeroGrant b s).engine.wfcCap = s.engine.wfcCap ∧
    (zeroGrant b s).engine.forceBypass = s.engine.forceBypass ∧ (zeroGrant b s).engine.decisionTimer = s.engine.decisionTimer ∧
    (zeroGrant b s).output.wanted = s.output.wanted ∧ (zeroGrant b s).output.test = s.output.test ∧
    (zeroGrant b s).bus.receiver = s.bus.receiver ∧ (zeroGrant b s).bus.transmitter = s.bus.transmitter ∧
    (zeroGrant b s).bus.announceSlot = s.bus.announceSlot ∧ (zeroGrant b s).bus.replySlots = s.bus.replySlots ∧
    (zeroGrant b s).bus.remnant = s.bus.remnant ∧ (zeroGrant b s).bus.announceTimer = s.bus.announceTimer ∧
    (zeroGrant b s).bus.sequence = s.bus.sequence ∧ (zeroGrant b s).bus.lastHeard = s.bus.lastHeard ∧
    (zeroGrant b s).bus.heard = s.bus.heard ∧ (zeroGrant b s).bus.clashTimer = s.bus.clashTimer ∧
    (zeroGrant b s).bus.clash = s.bus.clash ∧ (zeroGrant b s).bus.stuck = s.bus.stuck ∧
    (zeroGrant b s).responder.sticky = s.responder.sticky ∧ (zeroGrant b s).output.bypass.outcome = s.output.bypass.outcome ∧
    (zeroGrant b s).output.bypass.mismatches = s.output.bypass.mismatches ∧
    (zeroGrant b s).output.outdoor.outcome = s.output.outdoor.outcome ∧
    (zeroGrant b s).output.outdoor.mismatches = s.output.outdoor.mismatches := by
  simp [zeroGrant]

/-- What `zeroGrants` leaves as it is. -/
@[simp] theorem zeroGrants_frame (s : State) :
    (zeroGrants s).startUp = s.startUp ∧ (zeroGrants s).scanner = s.scanner ∧ (zeroGrants s).reconciler = s.reconciler ∧
    (zeroGrants s).table = s.table ∧ (zeroGrants s).counters = s.counters ∧ (zeroGrants s).freeDraws = s.freeDraws ∧
    (zeroGrants s).pending = s.pending ∧ (zeroGrants s).engine.regime = s.engine.regime ∧
    (zeroGrants s).engine.candidate = s.engine.candidate ∧ (zeroGrants s).engine.fallback = s.engine.fallback ∧
    (zeroGrants s).engine.baseSpeed = s.engine.baseSpeed ∧ (zeroGrants s).engine.speedTarget = s.engine.speedTarget ∧
    (zeroGrants s).engine.reliefRequest = s.engine.reliefRequest ∧ (zeroGrants s).engine.reliefCap = s.engine.reliefCap ∧
    (zeroGrants s).engine.wfcRequest = s.engine.wfcRequest ∧ (zeroGrants s).engine.wfcCap = s.engine.wfcCap ∧
    (zeroGrants s).engine.forceBypass = s.engine.forceBypass ∧ (zeroGrants s).engine.decisionTimer = s.engine.decisionTimer ∧
    (zeroGrants s).output.wanted = s.output.wanted ∧ (zeroGrants s).output.test = s.output.test ∧
    (zeroGrants s).bus.receiver = s.bus.receiver ∧ (zeroGrants s).bus.transmitter = s.bus.transmitter ∧
    (zeroGrants s).bus.announceSlot = s.bus.announceSlot ∧ (zeroGrants s).bus.replySlots = s.bus.replySlots ∧
    (zeroGrants s).bus.remnant = s.bus.remnant ∧ (zeroGrants s).bus.announceTimer = s.bus.announceTimer ∧
    (zeroGrants s).bus.sequence = s.bus.sequence ∧ (zeroGrants s).bus.lastHeard = s.bus.lastHeard ∧
    (zeroGrants s).bus.heard = s.bus.heard ∧ (zeroGrants s).bus.clashTimer = s.bus.clashTimer ∧
    (zeroGrants s).bus.clash = s.bus.clash ∧ (zeroGrants s).bus.stuck = s.bus.stuck ∧
    (zeroGrants s).responder.sticky = s.responder.sticky ∧ (zeroGrants s).output.bypass.outcome = s.output.bypass.outcome ∧
    (zeroGrants s).output.bypass.mismatches = s.output.bypass.mismatches ∧
    (zeroGrants s).output.outdoor.outcome = s.output.outdoor.outcome ∧
    (zeroGrants s).output.outdoor.mismatches = s.output.outdoor.mismatches := by
  simp [zeroGrants]

/-- What `derate` leaves as it is. -/
@[simp] theorem derate_frame (s : State) :
    (derate s).startUp = s.startUp ∧ (derate s).scanner = s.scanner ∧ (derate s).reconciler = s.reconciler ∧
    (derate s).table = s.table ∧ (derate s).counters = s.counters ∧ (derate s).freeDraws = s.freeDraws ∧
    (derate s).pending = s.pending ∧ (derate s).engine.regime = s.engine.regime ∧
    (derate s).engine.candidate = s.engine.candidate ∧ (derate s).engine.fallback = s.engine.fallback ∧
    (derate s).engine.baseSpeed = s.engine.baseSpeed ∧ (derate s).engine.speedTarget = s.engine.speedTarget ∧
    (derate s).engine.reliefRequest = s.engine.reliefRequest ∧ (derate s).engine.reliefCap = s.engine.reliefCap ∧
    (derate s).engine.wfcRequest = s.engine.wfcRequest ∧ (derate s).engine.wfcCap = s.engine.wfcCap ∧
    (derate s).engine.forceBypass = s.engine.forceBypass ∧ (derate s).engine.decisionTimer = s.engine.decisionTimer ∧
    (derate s).output.wanted = s.output.wanted ∧ (derate s).output.test = s.output.test ∧
    (derate s).bus.receiver = s.bus.receiver ∧ (derate s).bus.transmitter = s.bus.transmitter ∧
    (derate s).bus.announceSlot = s.bus.announceSlot ∧ (derate s).bus.replySlots = s.bus.replySlots ∧
    (derate s).bus.remnant = s.bus.remnant ∧ (derate s).bus.announceTimer = s.bus.announceTimer ∧
    (derate s).bus.sequence = s.bus.sequence ∧ (derate s).bus.lastHeard = s.bus.lastHeard ∧ (derate s).bus.heard = s.bus.heard ∧
    (derate s).bus.clashTimer = s.bus.clashTimer ∧ (derate s).bus.clash = s.bus.clash ∧ (derate s).bus.stuck = s.bus.stuck ∧
    (derate s).responder.sticky = s.responder.sticky ∧ (derate s).output.bypass.outcome = s.output.bypass.outcome ∧
    (derate s).output.bypass.mismatches = s.output.bypass.mismatches ∧
    (derate s).output.outdoor.outcome = s.output.outdoor.outcome ∧
    (derate s).output.outdoor.mismatches = s.output.outdoor.mismatches := by
  unfold derate; dsimp only; split <;> simp

/-- What `reportReference` leaves as it is. -/
@[simp] theorem reportReference_frame (before : Reference) (s : State) :
    (reportReference before s).startUp = s.startUp ∧ (reportReference before s).scanner = s.scanner ∧
    (reportReference before s).reconciler = s.reconciler ∧ (reportReference before s).table = s.table ∧
    (reportReference before s).counters = s.counters ∧ (reportReference before s).freeDraws = s.freeDraws ∧
    (reportReference before s).pending = s.pending ∧ (reportReference before s).engine.regime = s.engine.regime ∧
    (reportReference before s).engine.candidate = s.engine.candidate ∧
    (reportReference before s).engine.fallback = s.engine.fallback ∧
    (reportReference before s).engine.baseSpeed = s.engine.baseSpeed ∧
    (reportReference before s).engine.speedTarget = s.engine.speedTarget ∧
    (reportReference before s).engine.reliefRequest = s.engine.reliefRequest ∧
    (reportReference before s).engine.reliefCap = s.engine.reliefCap ∧
    (reportReference before s).engine.wfcRequest = s.engine.wfcRequest ∧
    (reportReference before s).engine.wfcCap = s.engine.wfcCap ∧
    (reportReference before s).engine.forceBypass = s.engine.forceBypass ∧
    (reportReference before s).engine.decisionTimer = s.engine.decisionTimer ∧
    (reportReference before s).output.wanted = s.output.wanted ∧ (reportReference before s).output.test = s.output.test ∧
    (reportReference before s).bus.receiver = s.bus.receiver ∧ (reportReference before s).bus.transmitter = s.bus.transmitter ∧
    (reportReference before s).bus.announceSlot = s.bus.announceSlot ∧
    (reportReference before s).bus.replySlots = s.bus.replySlots ∧ (reportReference before s).bus.remnant = s.bus.remnant ∧
    (reportReference before s).bus.announceTimer = s.bus.announceTimer ∧
    (reportReference before s).bus.sequence = s.bus.sequence ∧ (reportReference before s).bus.lastHeard = s.bus.lastHeard ∧
    (reportReference before s).bus.heard = s.bus.heard ∧ (reportReference before s).bus.clashTimer = s.bus.clashTimer ∧
    (reportReference before s).bus.clash = s.bus.clash ∧ (reportReference before s).bus.stuck = s.bus.stuck ∧
    (reportReference before s).responder.sticky = s.responder.sticky ∧
    (reportReference before s).output.bypass.outcome = s.output.bypass.outcome ∧
    (reportReference before s).output.bypass.mismatches = s.output.bypass.mismatches ∧
    (reportReference before s).output.outdoor.outcome = s.output.outdoor.outcome ∧
    (reportReference before s).output.outdoor.mismatches = s.output.outdoor.mismatches := by
  unfold reportReference; repeat' (first | (simp; done) | split)

theorem recomputed_frame (holdMs : Nat) (cs : List (Int × Int)) (r : Reconciler) :
    (recomputed holdMs cs r).own = r.own ∧ (recomputed holdMs cs r).disagreeRun = r.disagreeRun ∧
    (recomputed holdMs cs r).agreeRun = r.agreeRun := by
  unfold recomputed; split <;> simp
/-- What `recompute` leaves as it is. -/
@[simp] theorem recompute_frame (s : State) :
    (recompute s).startUp = s.startUp ∧ (recompute s).scanner = s.scanner ∧ (recompute s).table = s.table ∧
    (recompute s).counters = s.counters ∧ (recompute s).freeDraws = s.freeDraws ∧ (recompute s).pending = s.pending ∧
    (recompute s).engine.regime = s.engine.regime ∧ (recompute s).engine.candidate = s.engine.candidate ∧
    (recompute s).engine.fallback = s.engine.fallback ∧ (recompute s).engine.baseSpeed = s.engine.baseSpeed ∧
    (recompute s).engine.speedTarget = s.engine.speedTarget ∧ (recompute s).engine.reliefRequest = s.engine.reliefRequest ∧
    (recompute s).engine.reliefCap = s.engine.reliefCap ∧ (recompute s).engine.wfcRequest = s.engine.wfcRequest ∧
    (recompute s).engine.wfcCap = s.engine.wfcCap ∧ (recompute s).engine.forceBypass = s.engine.forceBypass ∧
    (recompute s).engine.decisionTimer = s.engine.decisionTimer ∧ (recompute s).output.wanted = s.output.wanted ∧
    (recompute s).output.test = s.output.test ∧ (recompute s).bus.receiver = s.bus.receiver ∧
    (recompute s).bus.transmitter = s.bus.transmitter ∧ (recompute s).bus.announceSlot = s.bus.announceSlot ∧
    (recompute s).bus.replySlots = s.bus.replySlots ∧ (recompute s).bus.remnant = s.bus.remnant ∧
    (recompute s).bus.announceTimer = s.bus.announceTimer ∧ (recompute s).bus.sequence = s.bus.sequence ∧
    (recompute s).bus.lastHeard = s.bus.lastHeard ∧ (recompute s).bus.heard = s.bus.heard ∧
    (recompute s).bus.clashTimer = s.bus.clashTimer ∧ (recompute s).bus.clash = s.bus.clash ∧
    (recompute s).bus.stuck = s.bus.stuck ∧ (recompute s).responder.sticky = s.responder.sticky ∧
    (recompute s).output.bypass.outcome = s.output.bypass.outcome ∧
    (recompute s).output.bypass.mismatches = s.output.bypass.mismatches ∧
    (recompute s).output.outdoor.outcome = s.output.outdoor.outcome ∧
    (recompute s).output.outdoor.mismatches = s.output.outdoor.mismatches ∧ (recompute s).reconciler.own = s.reconciler.own ∧
    (recompute s).reconciler.disagreeRun = s.reconciler.disagreeRun ∧
    (recompute s).reconciler.agreeRun = s.reconciler.agreeRun := by
  simp [recompute, recomputed_frame]

/-- What `enterActive` leaves as it is; the two requests it sets to 0. -/
@[simp] theorem enterActive_frame (s : State) :
    (enterActive s).scanner = s.scanner ∧ (enterActive s).reconciler = s.reconciler ∧ (enterActive s).table = s.table ∧
    (enterActive s).counters = s.counters ∧ (enterActive s).freeDraws = s.freeDraws ∧ (enterActive s).pending = s.pending ∧
    (enterActive s).engine.regime = s.engine.regime ∧ (enterActive s).engine.candidate = s.engine.candidate ∧
    (enterActive s).engine.fallback = s.engine.fallback ∧ (enterActive s).engine.baseSpeed = s.engine.baseSpeed ∧
    (enterActive s).engine.speedTarget = s.engine.speedTarget ∧ (enterActive s).engine.reliefRequest = 0 ∧
    (enterActive s).engine.reliefCap = s.engine.reliefCap ∧ (enterActive s).engine.wfcRequest = 0 ∧
    (enterActive s).engine.wfcCap = s.engine.wfcCap ∧ (enterActive s).engine.forceBypass = s.engine.forceBypass ∧
    (enterActive s).engine.decisionTimer = s.engine.decisionTimer ∧ (enterActive s).output.wanted = s.output.wanted ∧
    (enterActive s).output.test = s.output.test ∧ (enterActive s).bus.receiver = s.bus.receiver ∧
    (enterActive s).bus.transmitter = s.bus.transmitter ∧ (enterActive s).bus.announceSlot = s.bus.announceSlot ∧
    (enterActive s).bus.replySlots = s.bus.replySlots ∧ (enterActive s).bus.remnant = s.bus.remnant ∧
    (enterActive s).bus.announceTimer = s.bus.announceTimer ∧ (enterActive s).bus.sequence = s.bus.sequence ∧
    (enterActive s).bus.lastHeard = s.bus.lastHeard ∧ (enterActive s).bus.heard = s.bus.heard ∧
    (enterActive s).bus.clashTimer = s.bus.clashTimer ∧ (enterActive s).bus.clash = s.bus.clash ∧
    (enterActive s).bus.stuck = s.bus.stuck ∧ (enterActive s).responder.sticky = s.responder.sticky ∧
    (enterActive s).output.bypass.outcome = s.output.bypass.outcome ∧
    (enterActive s).output.bypass.mismatches = s.output.bypass.mismatches ∧
    (enterActive s).output.outdoor.outcome = s.output.outdoor.outcome ∧
    (enterActive s).output.outdoor.mismatches = s.output.outdoor.mismatches ∧
    (enterActive s).startUp.address = s.startUp.address ∧ (enterActive s).startUp.settings = s.startUp.settings ∧
    (enterActive s).startUp.configDefault = s.startUp.configDefault ∧
    (enterActive s).startUp.configTimer = s.startUp.configTimer ∧ (enterActive s).startUp.listenTimer = s.startUp.listenTimer ∧
    (enterActive s).startUp.ownCount = s.startUp.ownCount ∧
    (enterActive s).startUp.restartPending = s.startUp.restartPending := by
  unfold enterActive; repeat' (first | (simp; done) | split)

/-- What `enterIsolated` leaves as it is. -/
@[simp] theorem enterIsolated_frame (s : State) :
    (enterIsolated s).scanner = s.scanner ∧ (enterIsolated s).reconciler = s.reconciler ∧ (enterIsolated s).table = s.table ∧
    (enterIsolated s).counters = s.counters ∧ (enterIsolated s).freeDraws = s.freeDraws ∧ (enterIsolated s).pending = s.pending ∧
    (enterIsolated s).engine.regime = s.engine.regime ∧ (enterIsolated s).engine.candidate = s.engine.candidate ∧
    (enterIsolated s).engine.fallback = s.engine.fallback ∧ (enterIsolated s).engine.baseSpeed = s.engine.baseSpeed ∧
    (enterIsolated s).engine.speedTarget = s.engine.speedTarget ∧
    (enterIsolated s).engine.reliefRequest = s.engine.reliefRequest ∧ (enterIsolated s).engine.reliefCap = s.engine.reliefCap ∧
    (enterIsolated s).engine.wfcRequest = s.engine.wfcRequest ∧ (enterIsolated s).engine.wfcCap = s.engine.wfcCap ∧
    (enterIsolated s).engine.forceBypass = s.engine.forceBypass ∧
    (enterIsolated s).engine.decisionTimer = s.engine.decisionTimer ∧ (enterIsolated s).output.wanted = s.output.wanted ∧
    (enterIsolated s).output.test = s.output.test ∧ (enterIsolated s).bus.receiver = s.bus.receiver ∧
    (enterIsolated s).bus.transmitter = s.bus.transmitter ∧ (enterIsolated s).bus.announceSlot = s.bus.announceSlot ∧
    (enterIsolated s).bus.replySlots = s.bus.replySlots ∧ (enterIsolated s).bus.remnant = s.bus.remnant ∧
    (enterIsolated s).bus.announceTimer = s.bus.announceTimer ∧ (enterIsolated s).bus.sequence = s.bus.sequence ∧
    (enterIsolated s).bus.heard = s.bus.heard ∧ (enterIsolated s).bus.clashTimer = s.bus.clashTimer ∧
    (enterIsolated s).bus.clash = s.bus.clash ∧ (enterIsolated s).bus.stuck = s.bus.stuck ∧
    (enterIsolated s).output.bypass.outcome = s.output.bypass.outcome ∧
    (enterIsolated s).output.bypass.mismatches = s.output.bypass.mismatches ∧
    (enterIsolated s).output.outdoor.outcome = s.output.outdoor.outcome ∧
    (enterIsolated s).output.outdoor.mismatches = s.output.outdoor.mismatches ∧
    (enterIsolated s).startUp.address = s.startUp.address ∧ (enterIsolated s).startUp.settings = s.startUp.settings ∧
    (enterIsolated s).startUp.configDefault = s.startUp.configDefault ∧
    (enterIsolated s).startUp.configTimer = s.startUp.configTimer ∧
    (enterIsolated s).startUp.listenTimer = s.startUp.listenTimer ∧ (enterIsolated s).startUp.ownCount = s.startUp.ownCount ∧
    (enterIsolated s).startUp.restartPending = s.startUp.restartPending := by
  unfold enterIsolated; repeat' (first | (simp; done) | split)

/-- What `rejoin` leaves as it is. -/
@[simp] theorem rejoin_frame (s : State) :
    (rejoin s).scanner = s.scanner ∧ (rejoin s).rotation = s.rotation ∧ (rejoin s).reconciler = s.reconciler ∧
    (rejoin s).engine = s.engine ∧ (rejoin s).table = s.table ∧ (rejoin s).allocator = s.allocator ∧
    (rejoin s).stagger = s.stagger ∧ (rejoin s).output = s.output ∧ (rejoin s).bus = s.bus ∧ (rejoin s).counters = s.counters ∧
    (rejoin s).freeDraws = s.freeDraws ∧ (rejoin s).pending = s.pending ∧ (rejoin s).startUp.address = s.startUp.address ∧
    (rejoin s).startUp.settings = s.startUp.settings ∧ (rejoin s).startUp.configDefault = s.startUp.configDefault ∧
    (rejoin s).startUp.configTimer = s.startUp.configTimer ∧ (rejoin s).startUp.listenTimer = s.startUp.listenTimer ∧
    (rejoin s).startUp.restartPending = s.startUp.restartPending ∧ (rejoin s).responder.sticky = s.responder.sticky := by
  unfold rejoin; repeat' (first | (simp; done) | split)

/-- What `hearStation` leaves as it is. -/
@[simp] theorem hearStation_frame (s : State) :
    (hearStation s).scanner = s.scanner ∧ (hearStation s).rotation = s.rotation ∧ (hearStation s).reconciler = s.reconciler ∧
    (hearStation s).engine = s.engine ∧ (hearStation s).table = s.table ∧ (hearStation s).allocator = s.allocator ∧
    (hearStation s).stagger = s.stagger ∧ (hearStation s).output = s.output ∧ (hearStation s).counters = s.counters ∧
    (hearStation s).freeDraws = s.freeDraws ∧ (hearStation s).pending = s.pending ∧
    (hearStation s).startUp.address = s.startUp.address ∧ (hearStation s).startUp.settings = s.startUp.settings ∧
    (hearStation s).startUp.configDefault = s.startUp.configDefault ∧
    (hearStation s).startUp.configTimer = s.startUp.configTimer ∧ (hearStation s).startUp.listenTimer = s.startUp.listenTimer ∧
    (hearStation s).startUp.restartPending = s.startUp.restartPending ∧ (hearStation s).bus.receiver = s.bus.receiver ∧
    (hearStation s).bus.transmitter = s.bus.transmitter ∧ (hearStation s).bus.announceSlot = s.bus.announceSlot ∧
    (hearStation s).bus.intentSlot = s.bus.intentSlot ∧ (hearStation s).bus.replySlots = s.bus.replySlots ∧
    (hearStation s).bus.onAir = s.bus.onAir ∧ (hearStation s).bus.remnant = s.bus.remnant ∧
    (hearStation s).bus.announceTimer = s.bus.announceTimer ∧ (hearStation s).bus.sequence = s.bus.sequence ∧
    (hearStation s).bus.clashTimer = s.bus.clashTimer ∧ (hearStation s).bus.clash = s.bus.clash ∧
    (hearStation s).bus.stuck = s.bus.stuck ∧ (hearStation s).responder.sticky = s.responder.sticky := by
  unfold hearStation; dsimp only; split <;> simp

/-- What `judgeClash` leaves as it is. -/
@[simp] theorem judgeClash_frame (s : State) :
    (judgeClash s).startUp = s.startUp ∧ (judgeClash s).scanner = s.scanner ∧ (judgeClash s).reconciler = s.reconciler ∧
    (judgeClash s).table = s.table ∧ (judgeClash s).counters = s.counters ∧ (judgeClash s).freeDraws = s.freeDraws ∧
    (judgeClash s).pending = s.pending ∧ (judgeClash s).engine.regime = s.engine.regime ∧
    (judgeClash s).engine.candidate = s.engine.candidate ∧ (judgeClash s).engine.fallback = s.engine.fallback ∧
    (judgeClash s).engine.baseSpeed = s.engine.baseSpeed ∧ (judgeClash s).engine.speedTarget = s.engine.speedTarget ∧
    (judgeClash s).engine.reliefRequest = s.engine.reliefRequest ∧ (judgeClash s).engine.reliefCap = s.engine.reliefCap ∧
    (judgeClash s).engine.wfcRequest = s.engine.wfcRequest ∧ (judgeClash s).engine.wfcCap = s.engine.wfcCap ∧
    (judgeClash s).engine.forceBypass = s.engine.forceBypass ∧ (judgeClash s).engine.decisionTimer = s.engine.decisionTimer ∧
    (judgeClash s).output.wanted = s.output.wanted ∧ (judgeClash s).output.test = s.output.test ∧
    (judgeClash s).bus.receiver = s.bus.receiver ∧ (judgeClash s).bus.transmitter = s.bus.transmitter ∧
    (judgeClash s).bus.announceSlot = s.bus.announceSlot ∧ (judgeClash s).bus.replySlots = s.bus.replySlots ∧
    (judgeClash s).bus.remnant = s.bus.remnant ∧ (judgeClash s).bus.announceTimer = s.bus.announceTimer ∧
    (judgeClash s).bus.sequence = s.bus.sequence ∧ (judgeClash s).bus.lastHeard = s.bus.lastHeard ∧
    (judgeClash s).bus.heard = s.bus.heard ∧ (judgeClash s).bus.stuck = s.bus.stuck ∧
    (judgeClash s).output.bypass.outcome = s.output.bypass.outcome ∧
    (judgeClash s).output.bypass.mismatches = s.output.bypass.mismatches ∧
    (judgeClash s).output.outdoor.outcome = s.output.outdoor.outcome ∧
    (judgeClash s).output.outdoor.mismatches = s.output.outdoor.mismatches := by
  unfold judgeClash; repeat' (first | (simp; done) | split)

/-- What `setStuck` leaves as it is. -/
@[simp] theorem setStuck_frame (v : Bool) (s : State) :
    (setStuck v s).startUp = s.startUp ∧ (setStuck v s).scanner = s.scanner ∧ (setStuck v s).rotation = s.rotation ∧
    (setStuck v s).reconciler = s.reconciler ∧ (setStuck v s).engine = s.engine ∧ (setStuck v s).table = s.table ∧
    (setStuck v s).allocator = s.allocator ∧ (setStuck v s).stagger = s.stagger ∧ (setStuck v s).output = s.output ∧
    (setStuck v s).counters = s.counters ∧ (setStuck v s).freeDraws = s.freeDraws ∧ (setStuck v s).pending = s.pending ∧
    (setStuck v s).bus.receiver = s.bus.receiver ∧ (setStuck v s).bus.transmitter = s.bus.transmitter ∧
    (setStuck v s).bus.announceSlot = s.bus.announceSlot ∧ (setStuck v s).bus.intentSlot = s.bus.intentSlot ∧
    (setStuck v s).bus.replySlots = s.bus.replySlots ∧ (setStuck v s).bus.onAir = s.bus.onAir ∧
    (setStuck v s).bus.remnant = s.bus.remnant ∧ (setStuck v s).bus.announceTimer = s.bus.announceTimer ∧
    (setStuck v s).bus.sequence = s.bus.sequence ∧ (setStuck v s).bus.lastHeard = s.bus.lastHeard ∧
    (setStuck v s).bus.heard = s.bus.heard ∧ (setStuck v s).bus.clashTimer = s.bus.clashTimer ∧
    (setStuck v s).bus.clash = s.bus.clash ∧ (setStuck v s).responder.sticky = s.responder.sticky := by
  unfold setStuck; repeat' (first | (simp; done) | split)

/-! ### What they do -/

/-- A new grant in use is handed on without a change of any allocation record (R108). -/
theorem reduceGrant_get (b : Budget) (s : State) :
    (reduceGrant b s).allocator.get b =
      { s.allocator.get b with grant := min (s.allocator.get b).grant (s.allocator.get b).ownShare } := by
  unfold reduceGrant; dsimp only; split
  · simp; omega
  · rw [Nat.min_eq_left (by omega)]

/-- The other budget is not touched. -/
theorem reduceGrant_get_other (b c : Budget) (s : State) (h : c ≠ b) :
    (reduceGrant b s).allocator.get c = s.allocator.get c := by
  unfold reduceGrant; dsimp only; split <;> simp [h]

/-- All an allocation does to its record: the division of the present participants, the own share, and the reduction (R100, R106, R108). -/
theorem allocate_get (b : Budget) (s : State) :
    (allocate b s).allocator.get b = {
      value := (s.allocator.get b).value, participants := sharesOf b s
      ownShare := shareOf s.startUp.address (sharesOf b s)
      grant := min (s.grant b) (shareOf s.startUp.address (sharesOf b s)) } := by
  simp [allocate, reduceGrant_get, State.grant]

/-- An allocation leaves the record of the other budget. -/
theorem allocate_get_other (b c : Budget) (s : State) (h : c ≠ b) :
    (allocate b s).allocator.get c = s.allocator.get c := by
  simp [allocate, reduceGrant_get_other, h]

/-- The zeroing of R109. -/
theorem zeroGrant_get (b : Budget) (s : State) :
    (zeroGrant b s).allocator.get b = { s.allocator.get b with ownShare := 0, grant := 0 } := by
  simp [zeroGrant, reduceGrant_get]

/-- A driven damper is at its command. -/
theorem setCommand_command (d : Damper) (v : Nat) (s : State) : ((setCommand d v s).output.damper d).command = v := by
  unfold setCommand; split
  · assumption
  · cases d <;> rfl

/-- The other damper is left. -/
theorem setCommand_other (d e : Damper) (v : Nat) (s : State) (h : e ≠ d) :
    (setCommand d v s).output.damper e = s.output.damper e := by
  unfold setCommand; split
  · rfl
  · cases d <;> cases e <;> first | rfl | exact absurd rfl h

/-- In service both dampers stand at the commands of R133 and R134. -/
theorem driveDampers_commands (s : State) (h : s.startUp.lifecycle.inService = true) :
    (driveDampers s).output.bypass.command = bypassCommand s ∧
    (driveDampers s).output.outdoor.command = outdoorCommand s := by
  unfold driveDampers
  rw [if_pos h]
  refine ⟨?_, setCommand_command .outdoor _ _⟩
  have := setCommand_other .outdoor .bypass (outdoorCommand s) (setCommand .bypass (bypassCommand s) s) (by decide)
  exact (congrArg DamperState.command this).trans (setCommand_command .bypass _ _)

/-- An evaluation of the fan condition, active and not suspended (R128). -/
theorem evaluateFan_spec (s : State) (h : fanActive s = true) (h' : s.fan.suspended = false) :
    (evaluateFan s).fan = fanNext s.cfg.offDelay (fanCondition s) s.fan := by
  simp [evaluateFan, h, h']

/-- A frame is begun on an idle line, or nothing happens (R163). -/
theorem beginFrame_cases (s : State) :
    beginFrame s = s ∨ ∃ slot f, offered s = some (slot, f) ∧ s.bus.receiver = .idle ∧ s.bus.transmitter = .quiet ∧
      s.bus.stuck = false ∧
      beginFrame s = { s with
        bus := { s.bus with
          transmitter := .contending, receiver := .collecting
          onAir := some { slot := slot, frame := f, inSlot := true } } } := by
  unfold beginFrame
  split
  · rename_i h
    split
    · rename_i slot f hf
      exact .inr ⟨slot, f, hf, h.1, h.2.1, h.2.2, rfl⟩
    · exact .inl rfl
  · exact .inl rfl

/-- The mode applied is the applied mode. -/
theorem applyMode_applied (m : Mode) (s : State) : (applyMode m s).engine.applied = m := by
  unfold applyMode; split
  · assumption
  · simp

/-- A forced change of the engine (R23). -/
theorem forcedChange_engine (s : State) :
    (forcedChange s).engine = { s.engine with applied := .bypass, target := .bypass, dwell := 0 } := by
  unfold forcedChange applyMode; dsimp only; split <;> simp_all

/-- The hold test forces BYPASS, or does nothing (R19). -/
theorem holdTest_cases (s : State) :
    holdTest s = s ∨ s.engine.applied = .economize ∧ holdCondition s = false ∧ holdTest s = forcedChange s := by
  unfold holdTest; split
  · rename_i h; simp at h; exact .inr ⟨h.1, h.2, rfl⟩
  · exact .inl rfl

/-- A recomputation with a candidate makes the reference FRESH with the medians and their enthalpy (R63). -/
theorem recomputed_fresh (holdMs : Nat) (cs : List (Int × Int)) (r : Reconciler) (t w : Int)
    (ht : lowerMedian (cs.map Prod.fst) = some t) (hw : lowerMedian (cs.map Prod.snd) = some w) :
    recomputed holdMs cs r =
      { r with reference := .fresh { t := t, w := w, h := enthalpy t w }, count := cs.length, hold := none } := by
  simp [recomputed, ht, hw]

/-- A recomputation acts on the reconciler by `recomputed` alone. -/
theorem recompute_reconciler (s : State) :
    (recompute s).reconciler = recomputed (mins s.cfg.holdLimit) (candidates s) s.reconciler := by
  simp [recompute]

/-- The outputs and timers of the state the wheel enters (section 8.2). -/
theorem moveWheel_output (w : Wheel) (s : State) : (moveWheel w s).output = { s.output with
    wheel := w
    idle := if w = .stopped then idleStart s else none
    purge := if w = .purging then some (secs s.cfg.purgeDuration) else none
    wheelRun := decide (w = .running ∨ w = .purging)
    wheelSpd := wheelSpeed s w } := rfl

end Sys2Proof.Machine
end

