-- ==== Sys2Proof/Laws/Blocks.lean ====
section
/-! SUPPORT. What the operations of the single blocks leave as it is. -/

namespace Sys2Proof.Machine

/-- What `putWindow` leaves as it is. -/
@[simp] theorem putWindow_frame (q : Quantity) (w : Window) (s : State) :
    (putWindow q w s).startUp = s.startUp ∧ (putWindow q w s).rotation = s.rotation ∧
    (putWindow q w s).reconciler = s.reconciler ∧ (putWindow q w s).engine = s.engine ∧ (putWindow q w s).table = s.table ∧
    (putWindow q w s).allocator = s.allocator ∧ (putWindow q w s).stagger = s.stagger ∧ (putWindow q w s).fan = s.fan ∧
    (putWindow q w s).output = s.output ∧ (putWindow q w s).bus = s.bus ∧ (putWindow q w s).counters = s.counters ∧
    (putWindow q w s).freeDraws = s.freeDraws ∧ (putWindow q w s).pending = s.pending ∧
    (putWindow q w s).scanner.scanTimer = s.scanner.scanTimer ∧ (putWindow q w s).scanner.scan = s.scanner.scan ∧
    (putWindow q w s).scanner.scanOut = s.scanner.scanOut ∧ (putWindow q w s).scanner.scanOutTimer = s.scanner.scanOutTimer := by
  unfold putWindow; dsimp only; split <;> simp

/-- What `judgeOwnSensor` leaves as it is. -/
@[simp] theorem judgeOwnSensor_frame (s : State) :
    (judgeOwnSensor s).startUp = s.startUp ∧ (judgeOwnSensor s).scanner = s.scanner ∧ (judgeOwnSensor s).rotation = s.rotation ∧
    (judgeOwnSensor s).engine = s.engine ∧ (judgeOwnSensor s).table = s.table ∧ (judgeOwnSensor s).allocator = s.allocator ∧
    (judgeOwnSensor s).stagger = s.stagger ∧ (judgeOwnSensor s).fan = s.fan ∧ (judgeOwnSensor s).output = s.output ∧
    (judgeOwnSensor s).bus = s.bus ∧ (judgeOwnSensor s).responder = s.responder ∧ (judgeOwnSensor s).counters = s.counters ∧
    (judgeOwnSensor s).freeDraws = s.freeDraws ∧ (judgeOwnSensor s).pending = s.pending := by
  unfold judgeOwnSensor; repeat' (first | (simp; done) | split)

/-- What `deliverAccepted` leaves as it is. -/
@[simp] theorem deliverAccepted_frame (q : Quantity) (v : Int) (s : State) :
    (deliverAccepted q v s).startUp = s.startUp ∧ (deliverAccepted q v s).table = s.table ∧
    (deliverAccepted q v s).counters = s.counters ∧ (deliverAccepted q v s).freeDraws = s.freeDraws ∧
    (deliverAccepted q v s).pending = s.pending ∧ (deliverAccepted q v s).engine.regime = s.engine.regime ∧
    (deliverAccepted q v s).engine.candidate = s.engine.candidate ∧ (deliverAccepted q v s).engine.fallback = s.engine.fallback ∧
    (deliverAccepted q v s).engine.baseSpeed = s.engine.baseSpeed ∧
    (deliverAccepted q v s).engine.speedTarget = s.engine.speedTarget ∧
    (deliverAccepted q v s).engine.reliefRequest = s.engine.reliefRequest ∧
    (deliverAccepted q v s).engine.reliefCap = s.engine.reliefCap ∧
    (deliverAccepted q v s).engine.wfcRequest = s.engine.wfcRequest ∧ (deliverAccepted q v s).engine.wfcCap = s.engine.wfcCap ∧
    (deliverAccepted q v s).engine.forceBypass = s.engine.forceBypass ∧
    (deliverAccepted q v s).engine.decisionTimer = s.engine.decisionTimer ∧
    (deliverAccepted q v s).output.wanted = s.output.wanted ∧ (deliverAccepted q v s).output.test = s.output.test ∧
    (deliverAccepted q v s).bus.receiver = s.bus.receiver ∧ (deliverAccepted q v s).bus.transmitter = s.bus.transmitter ∧
    (deliverAccepted q v s).bus.announceSlot = s.bus.announceSlot ∧ (deliverAccepted q v s).bus.replySlots = s.bus.replySlots ∧
    (deliverAccepted q v s).bus.remnant = s.bus.remnant ∧ (deliverAccepted q v s).bus.announceTimer = s.bus.announceTimer ∧
    (deliverAccepted q v s).bus.sequence = s.bus.sequence ∧ (deliverAccepted q v s).bus.lastHeard = s.bus.lastHeard ∧
    (deliverAccepted q v s).bus.heard = s.bus.heard ∧ (deliverAccepted q v s).bus.clashTimer = s.bus.clashTimer ∧
    (deliverAccepted q v s).bus.clash = s.bus.clash ∧ (deliverAccepted q v s).bus.stuck = s.bus.stuck ∧
    (deliverAccepted q v s).output.bypass.outcome = s.output.bypass.outcome ∧
    (deliverAccepted q v s).output.bypass.mismatches = s.output.bypass.mismatches ∧
    (deliverAccepted q v s).output.outdoor.outcome = s.output.outdoor.outcome ∧
    (deliverAccepted q v s).output.outdoor.mismatches = s.output.outdoor.mismatches ∧
    (deliverAccepted q v s).scanner.scanTimer = s.scanner.scanTimer ∧ (deliverAccepted q v s).scanner.scan = s.scanner.scan ∧
    (deliverAccepted q v s).scanner.scanOut = s.scanner.scanOut ∧
    (deliverAccepted q v s).scanner.scanOutTimer = s.scanner.scanOutTimer := by
  unfold deliverAccepted; dsimp only; repeat' (first | (simp; done) | split)

/-- What `holdExpires` leaves as it is. -/
@[simp] theorem holdExpires_frame (s : State) :
    (holdExpires s).startUp = s.startUp ∧ (holdExpires s).scanner = s.scanner ∧ (holdExpires s).table = s.table ∧
    (holdExpires s).counters = s.counters ∧ (holdExpires s).freeDraws = s.freeDraws ∧ (holdExpires s).pending = s.pending ∧
    (holdExpires s).engine.regime = s.engine.regime ∧ (holdExpires s).engine.candidate = s.engine.candidate ∧
    (holdExpires s).engine.fallback = s.engine.fallback ∧ (holdExpires s).engine.baseSpeed = s.engine.baseSpeed ∧
    (holdExpires s).engine.speedTarget = s.engine.speedTarget ∧ (holdExpires s).engine.reliefRequest = s.engine.reliefRequest ∧
    (holdExpires s).engine.reliefCap = s.engine.reliefCap ∧ (holdExpires s).engine.wfcRequest = s.engine.wfcRequest ∧
    (holdExpires s).engine.wfcCap = s.engine.wfcCap ∧ (holdExpires s).engine.forceBypass = s.engine.forceBypass ∧
    (holdExpires s).engine.decisionTimer = s.engine.decisionTimer ∧ (holdExpires s).output.wanted = s.output.wanted ∧
    (holdExpires s).output.test = s.output.test ∧ (holdExpires s).bus.receiver = s.bus.receiver ∧
    (holdExpires s).bus.transmitter = s.bus.transmitter ∧ (holdExpires s).bus.announceSlot = s.bus.announceSlot ∧
    (holdExpires s).bus.replySlots = s.bus.replySlots ∧ (holdExpires s).bus.remnant = s.bus.remnant ∧
    (holdExpires s).bus.announceTimer = s.bus.announceTimer ∧ (holdExpires s).bus.sequence = s.bus.sequence ∧
    (holdExpires s).bus.lastHeard = s.bus.lastHeard ∧ (holdExpires s).bus.heard = s.bus.heard ∧
    (holdExpires s).bus.clashTimer = s.bus.clashTimer ∧ (holdExpires s).bus.clash = s.bus.clash ∧
    (holdExpires s).bus.stuck = s.bus.stuck ∧ (holdExpires s).output.bypass.outcome = s.output.bypass.outcome ∧
    (holdExpires s).output.bypass.mismatches = s.output.bypass.mismatches ∧
    (holdExpires s).output.outdoor.outcome = s.output.outdoor.outcome ∧
    (holdExpires s).output.outdoor.mismatches = s.output.outdoor.mismatches ∧ (holdExpires s).reconciler.own = s.reconciler.own ∧
    (holdExpires s).reconciler.disagreeRun = s.reconciler.disagreeRun ∧
    (holdExpires s).reconciler.agreeRun = s.reconciler.agreeRun := by
  simp [holdExpires]

/-- What `setOutcome` leaves as it is. -/
@[simp] theorem setOutcome_frame (d : Damper) (o : Polarity) (s : State) :
    (setOutcome d o s).startUp = s.startUp ∧ (setOutcome d o s).scanner = s.scanner ∧
    (setOutcome d o s).reconciler = s.reconciler ∧ (setOutcome d o s).table = s.table ∧
    (setOutcome d o s).allocator = s.allocator ∧ (setOutcome d o s).counters = s.counters ∧
    (setOutcome d o s).freeDraws = s.freeDraws ∧ (setOutcome d o s).pending = s.pending ∧
    (setOutcome d o s).engine.regime = s.engine.regime ∧ (setOutcome d o s).engine.candidate = s.engine.candidate ∧
    (setOutcome d o s).engine.fallback = s.engine.fallback ∧ (setOutcome d o s).engine.baseSpeed = s.engine.baseSpeed ∧
    (setOutcome d o s).engine.speedTarget = s.engine.speedTarget ∧
    (setOutcome d o s).engine.reliefRequest = s.engine.reliefRequest ∧ (setOutcome d o s).engine.reliefCap = s.engine.reliefCap ∧
    (setOutcome d o s).engine.wfcRequest = s.engine.wfcRequest ∧ (setOutcome d o s).engine.wfcCap = s.engine.wfcCap ∧
    (setOutcome d o s).engine.forceBypass = s.engine.forceBypass ∧
    (setOutcome d o s).engine.decisionTimer = s.engine.decisionTimer ∧ (setOutcome d o s).output.wanted = s.output.wanted ∧
    (setOutcome d o s).output.test = s.output.test ∧ (setOutcome d o s).bus.receiver = s.bus.receiver ∧
    (setOutcome d o s).bus.transmitter = s.bus.transmitter ∧ (setOutcome d o s).bus.announceSlot = s.bus.announceSlot ∧
    (setOutcome d o s).bus.replySlots = s.bus.replySlots ∧ (setOutcome d o s).bus.remnant = s.bus.remnant ∧
    (setOutcome d o s).bus.announceTimer = s.bus.announceTimer ∧ (setOutcome d o s).bus.sequence = s.bus.sequence ∧
    (setOutcome d o s).bus.lastHeard = s.bus.lastHeard ∧ (setOutcome d o s).bus.heard = s.bus.heard ∧
    (setOutcome d o s).bus.clashTimer = s.bus.clashTimer ∧ (setOutcome d o s).bus.clash = s.bus.clash ∧
    (setOutcome d o s).bus.stuck = s.bus.stuck ∧ (setOutcome d o s).output.bypass.mismatches = s.output.bypass.mismatches ∧
    (setOutcome d o s).output.outdoor.mismatches = s.output.outdoor.mismatches ∧ (setOutcome d o s).fan = s.fan := by
  unfold setOutcome; dsimp only; cases d <;> (split <;> split <;> simp [Output.setDamper, Output.damper])

/-- What `setMismatches` leaves as it is. -/
@[simp] theorem setMismatches_frame (d : Damper) (n : Nat) (s : State) :
    (setMismatches d n s).startUp = s.startUp ∧ (setMismatches d n s).scanner = s.scanner ∧
    (setMismatches d n s).rotation = s.rotation ∧ (setMismatches d n s).reconciler = s.reconciler ∧
    (setMismatches d n s).engine = s.engine ∧ (setMismatches d n s).table = s.table ∧
    (setMismatches d n s).allocator = s.allocator ∧ (setMismatches d n s).stagger = s.stagger ∧
    (setMismatches d n s).fan = s.fan ∧ (setMismatches d n s).bus = s.bus ∧ (setMismatches d n s).responder = s.responder ∧
    (setMismatches d n s).counters = s.counters ∧ (setMismatches d n s).freeDraws = s.freeDraws ∧
    (setMismatches d n s).pending = s.pending ∧ (setMismatches d n s).output.wheel = s.output.wheel ∧
    (setMismatches d n s).output.idle = s.output.idle ∧ (setMismatches d n s).output.purge = s.output.purge ∧
    (setMismatches d n s).output.wanted = s.output.wanted ∧ (setMismatches d n s).output.test = s.output.test ∧
    (setMismatches d n s).output.wheelSpd = s.output.wheelSpd ∧ (setMismatches d n s).output.wfcPos = s.output.wfcPos ∧
    (setMismatches d n s).output.wheelRun = s.output.wheelRun := by
  cases d <;> simp [setMismatches, Output.setDamper]

/-- What `applyJudgement` leaves as it is. -/
@[simp] theorem applyJudgement_frame (d : Damper) (j : Option Bool) (s : State) :
    (applyJudgement d j s).startUp = s.startUp ∧ (applyJudgement d j s).scanner = s.scanner ∧
    (applyJudgement d j s).reconciler = s.reconciler ∧ (applyJudgement d j s).table = s.table ∧
    (applyJudgement d j s).allocator = s.allocator ∧ (applyJudgement d j s).counters = s.counters ∧
    (applyJudgement d j s).freeDraws = s.freeDraws ∧ (applyJudgement d j s).pending = s.pending ∧
    (applyJudgement d j s).engine.regime = s.engine.regime ∧ (applyJudgement d j s).engine.candidate = s.engine.candidate ∧
    (applyJudgement d j s).engine.fallback = s.engine.fallback ∧ (applyJudgement d j s).engine.baseSpeed = s.engine.baseSpeed ∧
    (applyJudgement d j s).engine.speedTarget = s.engine.speedTarget ∧
    (applyJudgement d j s).engine.reliefRequest = s.engine.reliefRequest ∧
    (applyJudgement d j s).engine.reliefCap = s.engine.reliefCap ∧
    (applyJudgement d j s).engine.wfcRequest = s.engine.wfcRequest ∧ (applyJudgement d j s).engine.wfcCap = s.engine.wfcCap ∧
    (applyJudgement d j s).engine.forceBypass = s.engine.forceBypass ∧
    (applyJudgement d j s).engine.decisionTimer = s.engine.decisionTimer ∧
    (applyJudgement d j s).output.wanted = s.output.wanted ∧ (applyJudgement d j s).output.test = s.output.test ∧
    (applyJudgement d j s).bus.receiver = s.bus.receiver ∧ (applyJudgement d j s).bus.transmitter = s.bus.transmitter ∧
    (applyJudgement d j s).bus.announceSlot = s.bus.announceSlot ∧ (applyJudgement d j s).bus.replySlots = s.bus.replySlots ∧
    (applyJudgement d j s).bus.remnant = s.bus.remnant ∧ (applyJudgement d j s).bus.announceTimer = s.bus.announceTimer ∧
    (applyJudgement d j s).bus.sequence = s.bus.sequence ∧ (applyJudgement d j s).bus.lastHeard = s.bus.lastHeard ∧
    (applyJudgement d j s).bus.heard = s.bus.heard ∧ (applyJudgement d j s).bus.clashTimer = s.bus.clashTimer ∧
    (applyJudgement d j s).bus.clash = s.bus.clash ∧ (applyJudgement d j s).bus.stuck = s.bus.stuck ∧
    (applyJudgement d j s).fan = s.fan := by
  unfold applyJudgement; repeat' (first | (simp; done) | split)

/-- What `applyJudgements` leaves as it is. -/
@[simp] theorem applyJudgements_frame (from_ : State) (s : State) :
    (applyJudgements from_ s).startUp = s.startUp ∧ (applyJudgements from_ s).scanner = s.scanner ∧
    (applyJudgements from_ s).reconciler = s.reconciler ∧ (applyJudgements from_ s).table = s.table ∧
    (applyJudgements from_ s).allocator = s.allocator ∧ (applyJudgements from_ s).counters = s.counters ∧
    (applyJudgements from_ s).freeDraws = s.freeDraws ∧ (applyJudgements from_ s).pending = s.pending ∧
    (applyJudgements from_ s).engine.regime = s.engine.regime ∧ (applyJudgements from_ s).engine.candidate = s.engine.candidate ∧
    (applyJudgements from_ s).engine.fallback = s.engine.fallback ∧
    (applyJudgements from_ s).engine.baseSpeed = s.engine.baseSpeed ∧
    (applyJudgements from_ s).engine.speedTarget = s.engine.speedTarget ∧
    (applyJudgements from_ s).engine.reliefRequest = s.engine.reliefRequest ∧
    (applyJudgements from_ s).engine.reliefCap = s.engine.reliefCap ∧
    (applyJudgements from_ s).engine.wfcRequest = s.engine.wfcRequest ∧
    (applyJudgements from_ s).engine.wfcCap = s.engine.wfcCap ∧
    (applyJudgements from_ s).engine.forceBypass = s.engine.forceBypass ∧
    (applyJudgements from_ s).engine.decisionTimer = s.engine.decisionTimer ∧
    (applyJudgements from_ s).output.wanted = s.output.wanted ∧ (applyJudgements from_ s).output.test = s.output.test ∧
    (applyJudgements from_ s).bus.receiver = s.bus.receiver ∧ (applyJudgements from_ s).bus.transmitter = s.bus.transmitter ∧
    (applyJudgements from_ s).bus.announceSlot = s.bus.announceSlot ∧
    (applyJudgements from_ s).bus.replySlots = s.bus.replySlots ∧ (applyJudgements from_ s).bus.remnant = s.bus.remnant ∧
    (applyJudgements from_ s).bus.announceTimer = s.bus.announceTimer ∧ (applyJudgements from_ s).bus.sequence = s.bus.sequence ∧
    (applyJudgements from_ s).bus.lastHeard = s.bus.lastHeard ∧ (applyJudgements from_ s).bus.heard = s.bus.heard ∧
    (applyJudgements from_ s).bus.clashTimer = s.bus.clashTimer ∧ (applyJudgements from_ s).bus.clash = s.bus.clash ∧
    (applyJudgements from_ s).bus.stuck = s.bus.stuck ∧ (applyJudgements from_ s).fan = s.fan := by
  simp [applyJudgements]

/-- What `drivePhase` leaves as it is. -/
@[simp] theorem drivePhase_frame (t : PolarityTest) (byp oa : Nat) (s : State) :
    (drivePhase t byp oa s).startUp = s.startUp ∧ (drivePhase t byp oa s).scanner = s.scanner ∧
    (drivePhase t byp oa s).rotation = s.rotation ∧ (drivePhase t byp oa s).reconciler = s.reconciler ∧
    (drivePhase t byp oa s).engine = s.engine ∧ (drivePhase t byp oa s).table = s.table ∧
    (drivePhase t byp oa s).allocator = s.allocator ∧ (drivePhase t byp oa s).stagger = s.stagger ∧
    (drivePhase t byp oa s).fan = s.fan ∧ (drivePhase t byp oa s).bus = s.bus ∧ (drivePhase t byp oa s).responder = s.responder ∧
    (drivePhase t byp oa s).counters = s.counters ∧ (drivePhase t byp oa s).freeDraws = s.freeDraws ∧
    (drivePhase t byp oa s).pending = s.pending ∧ (drivePhase t byp oa s).output.wheel = s.output.wheel ∧
    (drivePhase t byp oa s).output.idle = s.output.idle ∧ (drivePhase t byp oa s).output.purge = s.output.purge ∧
    (drivePhase t byp oa s).output.wanted = s.output.wanted ∧ (drivePhase t byp oa s).output.wheelSpd = s.output.wheelSpd ∧
    (drivePhase t byp oa s).output.wfcPos = s.output.wfcPos ∧ (drivePhase t byp oa s).output.wheelRun = s.output.wheelRun ∧
    (drivePhase t byp oa s).output.bypass.outcome = s.output.bypass.outcome ∧
    (drivePhase t byp oa s).output.bypass.mismatches = s.output.bypass.mismatches ∧
    (drivePhase t byp oa s).output.outdoor.outcome = s.output.outdoor.outcome ∧
    (drivePhase t byp oa s).output.outdoor.mismatches = s.output.outdoor.mismatches := by
  simp [drivePhase]

/-- What `stageAdopt` leaves as it is. -/
@[simp] theorem stageAdopt_frame (s : State) :
    (stageAdopt s).startUp = s.startUp ∧ (stageAdopt s).scanner = s.scanner ∧ (stageAdopt s).rotation = s.rotation ∧
    (stageAdopt s).reconciler = s.reconciler ∧ (stageAdopt s).table = s.table ∧ (stageAdopt s).stagger = s.stagger ∧
    (stageAdopt s).bus = s.bus ∧ (stageAdopt s).responder = s.responder ∧ (stageAdopt s).counters = s.counters ∧
    (stageAdopt s).freeDraws = s.freeDraws ∧ (stageAdopt s).pending = s.pending ∧ (stageAdopt s).engine = s.engine ∧
    (stageAdopt s).output.wheel = s.output.wheel ∧ (stageAdopt s).output.idle = s.output.idle ∧
    (stageAdopt s).output.purge = s.output.purge ∧ (stageAdopt s).output.wanted = s.output.wanted ∧
    (stageAdopt s).output.test = s.output.test ∧ (stageAdopt s).output.wheelSpd = s.output.wheelSpd ∧
    (stageAdopt s).output.wheelRun = s.output.wheelRun ∧ (stageAdopt s).output.bypass.outcome = s.output.bypass.outcome ∧
    (stageAdopt s).output.bypass.mismatches = s.output.bypass.mismatches ∧
    (stageAdopt s).output.outdoor.outcome = s.output.outdoor.outcome ∧
    (stageAdopt s).output.outdoor.mismatches = s.output.outdoor.mismatches := by
  simp [stageAdopt]

/-- What `stageRequests` leaves as it is. -/
@[simp] theorem stageRequests_frame (s : State) :
    (stageRequests s).startUp = s.startUp ∧ (stageRequests s).scanner = s.scanner ∧ (stageRequests s).reconciler = s.reconciler ∧
    (stageRequests s).table = s.table ∧ (stageRequests s).allocator = s.allocator ∧ (stageRequests s).counters = s.counters ∧
    (stageRequests s).freeDraws = s.freeDraws ∧ (stageRequests s).pending = s.pending ∧
    (stageRequests s).output.test = s.output.test ∧ (stageRequests s).bus.receiver = s.bus.receiver ∧
    (stageRequests s).bus.transmitter = s.bus.transmitter ∧ (stageRequests s).bus.announceSlot = s.bus.announceSlot ∧
    (stageRequests s).bus.replySlots = s.bus.replySlots ∧ (stageRequests s).bus.remnant = s.bus.remnant ∧
    (stageRequests s).bus.announceTimer = s.bus.announceTimer ∧ (stageRequests s).bus.sequence = s.bus.sequence ∧
    (stageRequests s).bus.lastHeard = s.bus.lastHeard ∧ (stageRequests s).bus.heard = s.bus.heard ∧
    (stageRequests s).bus.clashTimer = s.bus.clashTimer ∧ (stageRequests s).bus.clash = s.bus.clash ∧
    (stageRequests s).bus.stuck = s.bus.stuck ∧ (stageRequests s).responder.sticky = s.responder.sticky ∧
    (stageRequests s).output.bypass.outcome = s.output.bypass.outcome ∧
    (stageRequests s).output.bypass.mismatches = s.output.bypass.mismatches ∧
    (stageRequests s).output.outdoor.outcome = s.output.outdoor.outcome ∧
    (stageRequests s).output.outdoor.mismatches = s.output.outdoor.mismatches ∧
    (stageRequests s).engine.regime = s.engine.regime ∧ (stageRequests s).engine.candidate = s.engine.candidate ∧
    (stageRequests s).engine.fallback = s.engine.fallback ∧ (stageRequests s).engine.baseSpeed = s.engine.baseSpeed ∧
    (stageRequests s).engine.speedTarget = s.engine.speedTarget ∧ (stageRequests s).engine.forceBypass = s.engine.forceBypass ∧
    (stageRequests s).engine.decisionTimer = s.engine.decisionTimer ∧ (stageRequests s).fan = s.fan := by
  simp [stageRequests]

/-- What `handHeavy` leaves as it is. -/
@[simp] theorem handHeavy_frame (k : ChangeKind) (s : State) :
    (handHeavy k s).startUp = s.startUp ∧ (handHeavy k s).scanner = s.scanner ∧ (handHeavy k s).rotation = s.rotation ∧
    (handHeavy k s).reconciler = s.reconciler ∧ (handHeavy k s).engine = s.engine ∧ (handHeavy k s).table = s.table ∧
    (handHeavy k s).allocator = s.allocator ∧ (handHeavy k s).fan = s.fan ∧ (handHeavy k s).output = s.output ∧
    (handHeavy k s).responder = s.responder ∧ (handHeavy k s).counters = s.counters ∧ (handHeavy k s).freeDraws = s.freeDraws ∧
    (handHeavy k s).pending = s.pending ∧ (handHeavy k s).bus.announceSlot = s.bus.announceSlot ∧
    (handHeavy k s).bus.replySlots = s.bus.replySlots ∧ (handHeavy k s).bus.remnant = s.bus.remnant ∧
    (handHeavy k s).bus.announceTimer = s.bus.announceTimer ∧ (handHeavy k s).bus.sequence = s.bus.sequence ∧
    (handHeavy k s).bus.lastHeard = s.bus.lastHeard ∧ (handHeavy k s).bus.heard = s.bus.heard ∧
    (handHeavy k s).bus.clashTimer = s.bus.clashTimer ∧ (handHeavy k s).bus.clash = s.bus.clash ∧
    (handHeavy k s).bus.stuck = s.bus.stuck := by
  unfold handHeavy; repeat' (first | (simp; done) | split)

/-- What `stageTarget` leaves as it is. -/
@[simp] theorem stageTarget_frame (s : State) :
    (stageTarget s).startUp = s.startUp ∧ (stageTarget s).scanner = s.scanner ∧ (stageTarget s).reconciler = s.reconciler ∧
    (stageTarget s).table = s.table ∧ (stageTarget s).counters = s.counters ∧ (stageTarget s).freeDraws = s.freeDraws ∧
    (stageTarget s).pending = s.pending ∧ (stageTarget s).allocator = s.allocator ∧ (stageTarget s).fan = s.fan ∧
    (stageTarget s).responder.sticky = s.responder.sticky ∧ (stageTarget s).bus.announceSlot = s.bus.announceSlot ∧
    (stageTarget s).bus.replySlots = s.bus.replySlots ∧ (stageTarget s).bus.remnant = s.bus.remnant ∧
    (stageTarget s).bus.announceTimer = s.bus.announceTimer ∧ (stageTarget s).bus.sequence = s.bus.sequence ∧
    (stageTarget s).bus.lastHeard = s.bus.lastHeard ∧ (stageTarget s).bus.heard = s.bus.heard ∧
    (stageTarget s).bus.clashTimer = s.bus.clashTimer ∧ (stageTarget s).bus.clash = s.bus.clash ∧
    (stageTarget s).bus.stuck = s.bus.stuck ∧ (stageTarget s).output.test = s.output.test ∧
    (stageTarget s).output.bypass.outcome = s.output.bypass.outcome ∧
    (stageTarget s).output.bypass.mismatches = s.output.bypass.mismatches ∧
    (stageTarget s).output.outdoor.outcome = s.output.outdoor.outcome ∧
    (stageTarget s).output.outdoor.mismatches = s.output.outdoor.mismatches ∧ (stageTarget s).engine.regime = s.engine.regime ∧
    (stageTarget s).engine.candidate = s.engine.candidate ∧ (stageTarget s).engine.fallback = s.engine.fallback ∧
    (stageTarget s).engine.target = s.engine.target ∧ (stageTarget s).engine.baseSpeed = s.engine.baseSpeed ∧
    (stageTarget s).engine.speedTarget = s.engine.speedTarget ∧ (stageTarget s).engine.reliefRequest = s.engine.reliefRequest ∧
    (stageTarget s).engine.reliefCap = s.engine.reliefCap ∧ (stageTarget s).engine.wfcRequest = s.engine.wfcRequest ∧
    (stageTarget s).engine.wfcCap = s.engine.wfcCap ∧ (stageTarget s).engine.forceBypass = s.engine.forceBypass ∧
    (stageTarget s).engine.decisionTimer = s.engine.decisionTimer ∧ (stageTarget s).output.wanted = s.output.wanted ∧
    (stageTarget s).output.wfcPos = s.output.wfcPos := by
  unfold stageTarget; split; · simp
  split; · simp
  split <;> simp

/-- A frost step moves the speed target and the member of the recovery pair (R16). -/
@[simp] theorem frostStep_frame (c : Settings) (exh : Int) (e : Engine) :
    (frostStep c exh e).target = e.target ∧ (frostStep c exh e).dwell = e.dwell ∧ (frostStep c exh e).regime = e.regime ∧
    (frostStep c exh e).candidate = e.candidate ∧ (frostStep c exh e).fallback = e.fallback ∧
    (frostStep c exh e).baseSpeed = e.baseSpeed ∧ (frostStep c exh e).reliefRequest = e.reliefRequest ∧
    (frostStep c exh e).reliefCap = e.reliefCap ∧ (frostStep c exh e).wfcRequest = e.wfcRequest ∧
    (frostStep c exh e).wfcCap = e.wfcCap ∧ (frostStep c exh e).forceBypass = e.forceBypass ∧
    (frostStep c exh e).decisionTimer = e.decisionTimer := by
  unfold frostStep; split; · simp
  split; · simp
  split <;> simp

/-- So does the frost cap (R17). -/
@[simp] theorem frostCap_frame (outTemp : Option Int) (e : Engine) :
    (frostCap outTemp e).target = e.target ∧ (frostCap outTemp e).dwell = e.dwell ∧ (frostCap outTemp e).regime = e.regime ∧
    (frostCap outTemp e).candidate = e.candidate ∧ (frostCap outTemp e).fallback = e.fallback ∧
    (frostCap outTemp e).baseSpeed = e.baseSpeed ∧ (frostCap outTemp e).reliefRequest = e.reliefRequest ∧
    (frostCap outTemp e).reliefCap = e.reliefCap ∧ (frostCap outTemp e).wfcRequest = e.wfcRequest ∧
    (frostCap outTemp e).wfcCap = e.wfcCap ∧ (frostCap outTemp e).forceBypass = e.forceBypass ∧
    (frostCap outTemp e).decisionTimer = e.decisionTimer := by
  unfold frostCap; split <;> simp

/-- The speed rules move the speed target and the member of the recovery pair, and nothing else (R15 to R17). -/
@[simp] theorem speedRules_frame (c : Settings) (exh outTemp : Option Int) (entered : Bool) (e : Engine) :
    (speedRules c exh outTemp entered e).target = e.target ∧ (speedRules c exh outTemp entered e).dwell = e.dwell ∧
    (speedRules c exh outTemp entered e).regime = e.regime ∧ (speedRules c exh outTemp entered e).candidate = e.candidate ∧
    (speedRules c exh outTemp entered e).fallback = e.fallback ∧ (speedRules c exh outTemp entered e).baseSpeed = e.baseSpeed ∧
    (speedRules c exh outTemp entered e).reliefRequest = e.reliefRequest ∧
    (speedRules c exh outTemp entered e).reliefCap = e.reliefCap ∧
    (speedRules c exh outTemp entered e).wfcRequest = e.wfcRequest ∧ (speedRules c exh outTemp entered e).wfcCap = e.wfcCap ∧
    (speedRules c exh outTemp entered e).forceBypass = e.forceBypass ∧
    (speedRules c exh outTemp entered e).decisionTimer = e.decisionTimer := by
  unfold speedRules; dsimp only; split; · simp
  · simp
  · simp
  · split <;> split <;> simp

/-- A frost step leaves the pair the pair (R16). -/
theorem frostStep_inPair (c : Settings) (exh : Int) (e : Engine) (h : e.applied.inPair = true) :
    (frostStep c exh e).applied.inPair = true := by
  unfold frostStep; split; · rfl
  split; · exact h
  split; · exact h
  dsimp only; split; · rfl
  exact h

/-- So does the frost cap (R17). -/
theorem frostCap_inPair (outTemp : Option Int) (e : Engine) : (frostCap outTemp e).applied.inPair = true := by
  unfold frostCap; split
  · dsimp only; split <;> rfl
  · rfl

/-- The speed rules leave the recovery pair the pair, and the other modes as they are (R15 to R17). -/
@[simp] theorem speedRules_inPair (c : Settings) (exh outTemp : Option Int) (entered : Bool) (e : Engine) :
    (speedRules c exh outTemp entered e).applied.inPair = e.applied.inPair := by
  unfold speedRules; dsimp only; split
  · rfl
  · simp_all [Mode.inPair]
  · simp_all [Mode.inPair]
  · rename_i h _
    rw [h]
    split <;> split <;> first | exact frostStep_inPair _ _ _ h | exact frostCap_inPair _ _

/-- What `setSpeed` leaves as it is. -/
@[simp] theorem setSpeed_frame (entered : Bool) (s : State) :
    (setSpeed entered s).startUp = s.startUp ∧ (setSpeed entered s).scanner = s.scanner ∧
    (setSpeed entered s).rotation = s.rotation ∧ (setSpeed entered s).reconciler = s.reconciler ∧
    (setSpeed entered s).table = s.table ∧ (setSpeed entered s).stagger = s.stagger ∧ (setSpeed entered s).bus = s.bus ∧
    (setSpeed entered s).responder = s.responder ∧ (setSpeed entered s).counters = s.counters ∧
    (setSpeed entered s).freeDraws = s.freeDraws ∧ (setSpeed entered s).pending = s.pending ∧
    (setSpeed entered s).allocator = s.allocator ∧ (setSpeed entered s).fan = s.fan ∧
    (setSpeed entered s).output.wheel = s.output.wheel ∧ (setSpeed entered s).output.idle = s.output.idle ∧
    (setSpeed entered s).output.purge = s.output.purge ∧ (setSpeed entered s).output.wanted = s.output.wanted ∧
    (setSpeed entered s).output.bypass = s.output.bypass ∧ (setSpeed entered s).output.outdoor = s.output.outdoor ∧
    (setSpeed entered s).output.test = s.output.test ∧ (setSpeed entered s).output.wfcPos = s.output.wfcPos ∧
    (setSpeed entered s).output.wheelRun = s.output.wheelRun ∧ (setSpeed entered s).engine.regime = s.engine.regime ∧
    (setSpeed entered s).engine.candidate = s.engine.candidate ∧ (setSpeed entered s).engine.fallback = s.engine.fallback ∧
    (setSpeed entered s).engine.target = s.engine.target ∧ (setSpeed entered s).engine.dwell = s.engine.dwell ∧
    (setSpeed entered s).engine.baseSpeed = s.engine.baseSpeed ∧
    (setSpeed entered s).engine.reliefRequest = s.engine.reliefRequest ∧
    (setSpeed entered s).engine.reliefCap = s.engine.reliefCap ∧ (setSpeed entered s).engine.wfcRequest = s.engine.wfcRequest ∧
    (setSpeed entered s).engine.wfcCap = s.engine.wfcCap ∧ (setSpeed entered s).engine.forceBypass = s.engine.forceBypass ∧
    (setSpeed entered s).engine.decisionTimer = s.engine.decisionTimer := by
  simp [setSpeed, speedRules_frame]

/-- What `stageSpeed` leaves as it is. -/
@[simp] theorem stageSpeed_frame (entered : Bool) (s : State) :
    (stageSpeed entered s).startUp = s.startUp ∧ (stageSpeed entered s).scanner = s.scanner ∧
    (stageSpeed entered s).rotation = s.rotation ∧ (stageSpeed entered s).reconciler = s.reconciler ∧
    (stageSpeed entered s).table = s.table ∧ (stageSpeed entered s).stagger = s.stagger ∧ (stageSpeed entered s).bus = s.bus ∧
    (stageSpeed entered s).responder = s.responder ∧ (stageSpeed entered s).counters = s.counters ∧
    (stageSpeed entered s).freeDraws = s.freeDraws ∧ (stageSpeed entered s).pending = s.pending ∧
    (stageSpeed entered s).allocator = s.allocator ∧ (stageSpeed entered s).fan = s.fan ∧
    (stageSpeed entered s).output.wheel = s.output.wheel ∧ (stageSpeed entered s).output.idle = s.output.idle ∧
    (stageSpeed entered s).output.purge = s.output.purge ∧ (stageSpeed entered s).output.wanted = s.output.wanted ∧
    (stageSpeed entered s).output.bypass = s.output.bypass ∧ (stageSpeed entered s).output.outdoor = s.output.outdoor ∧
    (stageSpeed entered s).output.test = s.output.test ∧ (stageSpeed entered s).output.wfcPos = s.output.wfcPos ∧
    (stageSpeed entered s).output.wheelRun = s.output.wheelRun ∧ (stageSpeed entered s).engine.regime = s.engine.regime ∧
    (stageSpeed entered s).engine.candidate = s.engine.candidate ∧ (stageSpeed entered s).engine.fallback = s.engine.fallback ∧
    (stageSpeed entered s).engine.target = s.engine.target ∧ (stageSpeed entered s).engine.dwell = s.engine.dwell ∧
    (stageSpeed entered s).engine.reliefRequest = s.engine.reliefRequest ∧
    (stageSpeed entered s).engine.reliefCap = s.engine.reliefCap ∧
    (stageSpeed entered s).engine.wfcRequest = s.engine.wfcRequest ∧ (stageSpeed entered s).engine.wfcCap = s.engine.wfcCap ∧
    (stageSpeed entered s).engine.forceBypass = s.engine.forceBypass ∧
    (stageSpeed entered s).engine.decisionTimer = s.engine.decisionTimer := by
  simp [stageSpeed]

/-- What `stagesTargetSpeed` leaves as it is. -/
@[simp] theorem stagesTargetSpeed_frame (s : State) :
    (stagesTargetSpeed s).startUp = s.startUp ∧ (stagesTargetSpeed s).scanner = s.scanner ∧
    (stagesTargetSpeed s).reconciler = s.reconciler ∧ (stagesTargetSpeed s).table = s.table ∧
    (stagesTargetSpeed s).counters = s.counters ∧ (stagesTargetSpeed s).freeDraws = s.freeDraws ∧
    (stagesTargetSpeed s).pending = s.pending ∧ (stagesTargetSpeed s).allocator = s.allocator ∧
    (stagesTargetSpeed s).fan = s.fan ∧ (stagesTargetSpeed s).responder.sticky = s.responder.sticky ∧
    (stagesTargetSpeed s).bus.announceSlot = s.bus.announceSlot ∧ (stagesTargetSpeed s).bus.replySlots = s.bus.replySlots ∧
    (stagesTargetSpeed s).bus.remnant = s.bus.remnant ∧ (stagesTargetSpeed s).bus.announceTimer = s.bus.announceTimer ∧
    (stagesTargetSpeed s).bus.sequence = s.bus.sequence ∧ (stagesTargetSpeed s).bus.lastHeard = s.bus.lastHeard ∧
    (stagesTargetSpeed s).bus.heard = s.bus.heard ∧ (stagesTargetSpeed s).bus.clashTimer = s.bus.clashTimer ∧
    (stagesTargetSpeed s).bus.clash = s.bus.clash ∧ (stagesTargetSpeed s).bus.stuck = s.bus.stuck ∧
    (stagesTargetSpeed s).output.test = s.output.test ∧ (stagesTargetSpeed s).output.bypass.outcome = s.output.bypass.outcome ∧
    (stagesTargetSpeed s).output.bypass.mismatches = s.output.bypass.mismatches ∧
    (stagesTargetSpeed s).output.outdoor.outcome = s.output.outdoor.outcome ∧
    (stagesTargetSpeed s).output.outdoor.mismatches = s.output.outdoor.mismatches ∧
    (stagesTargetSpeed s).engine.regime = s.engine.regime ∧ (stagesTargetSpeed s).engine.candidate = s.engine.candidate ∧
    (stagesTargetSpeed s).engine.fallback = s.engine.fallback ∧ (stagesTargetSpeed s).engine.target = s.engine.target ∧
    (stagesTargetSpeed s).engine.reliefRequest = s.engine.reliefRequest ∧
    (stagesTargetSpeed s).engine.reliefCap = s.engine.reliefCap ∧ (stagesTargetSpeed s).engine.wfcRequest = s.engine.wfcRequest ∧
    (stagesTargetSpeed s).engine.wfcCap = s.engine.wfcCap ∧ (stagesTargetSpeed s).engine.forceBypass = s.engine.forceBypass ∧
    (stagesTargetSpeed s).engine.decisionTimer = s.engine.decisionTimer ∧ (stagesTargetSpeed s).output.wanted = s.output.wanted ∧
    (stagesTargetSpeed s).output.wfcPos = s.output.wfcPos := by
  simp [stagesTargetSpeed]

/-- What `decisionStages` leaves as it is. -/
@[simp] theorem decisionStages_frame (s : State) :
    (decisionStages s).startUp = s.startUp ∧ (decisionStages s).scanner = s.scanner ∧
    (decisionStages s).reconciler = s.reconciler ∧ (decisionStages s).table = s.table ∧
    (decisionStages s).counters = s.counters ∧ (decisionStages s).freeDraws = s.freeDraws ∧
    (decisionStages s).pending = s.pending ∧ (decisionStages s).responder.sticky = s.responder.sticky ∧
    (decisionStages s).bus.announceSlot = s.bus.announceSlot ∧ (decisionStages s).bus.replySlots = s.bus.replySlots ∧
    (decisionStages s).bus.remnant = s.bus.remnant ∧ (decisionStages s).bus.announceTimer = s.bus.announceTimer ∧
    (decisionStages s).bus.sequence = s.bus.sequence ∧ (decisionStages s).bus.lastHeard = s.bus.lastHeard ∧
    (decisionStages s).bus.heard = s.bus.heard ∧ (decisionStages s).bus.clashTimer = s.bus.clashTimer ∧
    (decisionStages s).bus.clash = s.bus.clash ∧ (decisionStages s).bus.stuck = s.bus.stuck ∧
    (decisionStages s).output.test = s.output.test ∧ (decisionStages s).output.bypass.outcome = s.output.bypass.outcome ∧
    (decisionStages s).output.bypass.mismatches = s.output.bypass.mismatches ∧
    (decisionStages s).output.outdoor.outcome = s.output.outdoor.outcome ∧
    (decisionStages s).output.outdoor.mismatches = s.output.outdoor.mismatches ∧
    (decisionStages s).engine.forceBypass = s.engine.forceBypass ∧
    (decisionStages s).engine.decisionTimer = s.engine.decisionTimer := by
  simp [decisionStages]

/-- What `allocateChanged` leaves as it is. -/
@[simp] theorem allocateChanged_frame (before : Engine) (s : State) :
    (allocateChanged before s).startUp = s.startUp ∧ (allocateChanged before s).scanner = s.scanner ∧
    (allocateChanged before s).reconciler = s.reconciler ∧ (allocateChanged before s).table = s.table ∧
    (allocateChanged before s).counters = s.counters ∧ (allocateChanged before s).freeDraws = s.freeDraws ∧
    (allocateChanged before s).pending = s.pending ∧ (allocateChanged before s).engine.regime = s.engine.regime ∧
    (allocateChanged before s).engine.candidate = s.engine.candidate ∧
    (allocateChanged before s).engine.fallback = s.engine.fallback ∧
    (allocateChanged before s).engine.baseSpeed = s.engine.baseSpeed ∧
    (allocateChanged before s).engine.speedTarget = s.engine.speedTarget ∧
    (allocateChanged before s).engine.reliefRequest = s.engine.reliefRequest ∧
    (allocateChanged before s).engine.reliefCap = s.engine.reliefCap ∧
    (allocateChanged before s).engine.wfcRequest = s.engine.wfcRequest ∧
    (allocateChanged before s).engine.wfcCap = s.engine.wfcCap ∧
    (allocateChanged before s).engine.forceBypass = s.engine.forceBypass ∧
    (allocateChanged before s).engine.decisionTimer = s.engine.decisionTimer ∧
    (allocateChanged before s).output.wanted = s.output.wanted ∧ (allocateChanged before s).output.test = s.output.test ∧
    (allocateChanged before s).bus.receiver = s.bus.receiver ∧ (allocateChanged before s).bus.transmitter = s.bus.transmitter ∧
    (allocateChanged before s).bus.announceSlot = s.bus.announceSlot ∧
    (allocateChanged before s).bus.replySlots = s.bus.replySlots ∧ (allocateChanged before s).bus.remnant = s.bus.remnant ∧
    (allocateChanged before s).bus.announceTimer = s.bus.announceTimer ∧
    (allocateChanged before s).bus.sequence = s.bus.sequence ∧ (allocateChanged before s).bus.lastHeard = s.bus.lastHeard ∧
    (allocateChanged before s).bus.heard = s.bus.heard ∧ (allocateChanged before s).bus.clashTimer = s.bus.clashTimer ∧
    (allocateChanged before s).bus.clash = s.bus.clash ∧ (allocateChanged before s).bus.stuck = s.bus.stuck ∧
    (allocateChanged before s).responder.sticky = s.responder.sticky ∧
    (allocateChanged before s).output.bypass.outcome = s.output.bypass.outcome ∧
    (allocateChanged before s).output.bypass.mismatches = s.output.bypass.mismatches ∧
    (allocateChanged before s).output.outdoor.outcome = s.output.outdoor.outcome ∧
    (allocateChanged before s).output.outdoor.mismatches = s.output.outdoor.mismatches := by
  unfold allocateChanged; dsimp only; split <;> split <;> simp

/-- What `decide_` leaves as it is. -/
@[simp] theorem decide__frame (s : State) :
    (decide_ s).startUp = s.startUp ∧ (decide_ s).scanner = s.scanner ∧ (decide_ s).reconciler = s.reconciler ∧
    (decide_ s).table = s.table ∧ (decide_ s).counters = s.counters ∧ (decide_ s).freeDraws = s.freeDraws ∧
    (decide_ s).pending = s.pending ∧ (decide_ s).responder.sticky = s.responder.sticky ∧
    (decide_ s).bus.announceSlot = s.bus.announceSlot ∧ (decide_ s).bus.replySlots = s.bus.replySlots ∧
    (decide_ s).bus.remnant = s.bus.remnant ∧ (decide_ s).bus.announceTimer = s.bus.announceTimer ∧
    (decide_ s).bus.sequence = s.bus.sequence ∧ (decide_ s).bus.lastHeard = s.bus.lastHeard ∧
    (decide_ s).bus.heard = s.bus.heard ∧ (decide_ s).bus.clashTimer = s.bus.clashTimer ∧ (decide_ s).bus.clash = s.bus.clash ∧
    (decide_ s).bus.stuck = s.bus.stuck ∧ (decide_ s).output.test = s.output.test ∧
    (decide_ s).output.bypass.outcome = s.output.bypass.outcome ∧
    (decide_ s).output.bypass.mismatches = s.output.bypass.mismatches ∧
    (decide_ s).output.outdoor.outcome = s.output.outdoor.outcome ∧
    (decide_ s).output.outdoor.mismatches = s.output.outdoor.mismatches ∧ (decide_ s).engine.forceBypass = s.engine.forceBypass ∧
    (decide_ s).engine.decisionTimer = s.engine.decisionTimer := by
  simp [decide_]

/-- What `completeChange` leaves as it is. -/
@[simp] theorem completeChange_frame (k : ChangeKind) (s : State) :
    (completeChange k s).startUp = s.startUp ∧ (completeChange k s).scanner = s.scanner ∧
    (completeChange k s).reconciler = s.reconciler ∧ (completeChange k s).table = s.table ∧
    (completeChange k s).counters = s.counters ∧ (completeChange k s).freeDraws = s.freeDraws ∧
    (completeChange k s).pending = s.pending ∧ (completeChange k s).allocator = s.allocator ∧ (completeChange k s).fan = s.fan ∧
    (completeChange k s).bus = s.bus ∧ (completeChange k s).stagger = s.stagger ∧
    (completeChange k s).responder.sticky = s.responder.sticky ∧ (completeChange k s).engine.target = s.engine.target ∧
    (completeChange k s).engine.regime = s.engine.regime ∧ (completeChange k s).engine.candidate = s.engine.candidate ∧
    (completeChange k s).engine.fallback = s.engine.fallback ∧ (completeChange k s).engine.baseSpeed = s.engine.baseSpeed ∧
    (completeChange k s).engine.reliefRequest = s.engine.reliefRequest ∧
    (completeChange k s).engine.reliefCap = s.engine.reliefCap ∧ (completeChange k s).engine.wfcRequest = s.engine.wfcRequest ∧
    (completeChange k s).engine.wfcCap = s.engine.wfcCap ∧ (completeChange k s).engine.forceBypass = s.engine.forceBypass ∧
    (completeChange k s).engine.decisionTimer = s.engine.decisionTimer ∧ (completeChange k s).output.wanted = s.output.wanted ∧
    (completeChange k s).output.wfcPos = s.output.wfcPos ∧ (completeChange k s).output.test = s.output.test ∧
    (completeChange k s).output.bypass.outcome = s.output.bypass.outcome ∧
    (completeChange k s).output.bypass.mismatches = s.output.bypass.mismatches ∧
    (completeChange k s).output.outdoor.outcome = s.output.outdoor.outcome ∧
    (completeChange k s).output.outdoor.mismatches = s.output.outdoor.mismatches := by
  unfold completeChange; dsimp only; split <;> cases k <;> simp

/-- What `slotExpires` leaves as it is. -/
@[simp] theorem slotExpires_frame (p : Pending) (s : State) :
    (slotExpires p s).startUp = s.startUp ∧ (slotExpires p s).scanner = s.scanner ∧ (slotExpires p s).reconciler = s.reconciler ∧
    (slotExpires p s).table = s.table ∧ (slotExpires p s).counters = s.counters ∧ (slotExpires p s).freeDraws = s.freeDraws ∧
    (slotExpires p s).pending = s.pending ∧ (slotExpires p s).allocator = s.allocator ∧ (slotExpires p s).fan = s.fan ∧
    (slotExpires p s).bus = s.bus ∧ (slotExpires p s).responder.sticky = s.responder.sticky ∧
    (slotExpires p s).engine.target = s.engine.target ∧ (slotExpires p s).engine.regime = s.engine.regime ∧
    (slotExpires p s).engine.candidate = s.engine.candidate ∧ (slotExpires p s).engine.fallback = s.engine.fallback ∧
    (slotExpires p s).engine.baseSpeed = s.engine.baseSpeed ∧ (slotExpires p s).engine.reliefRequest = s.engine.reliefRequest ∧
    (slotExpires p s).engine.reliefCap = s.engine.reliefCap ∧ (slotExpires p s).engine.wfcRequest = s.engine.wfcRequest ∧
    (slotExpires p s).engine.wfcCap = s.engine.wfcCap ∧ (slotExpires p s).engine.forceBypass = s.engine.forceBypass ∧
    (slotExpires p s).engine.decisionTimer = s.engine.decisionTimer ∧ (slotExpires p s).output.wanted = s.output.wanted ∧
    (slotExpires p s).output.wfcPos = s.output.wfcPos ∧ (slotExpires p s).output.test = s.output.test ∧
    (slotExpires p s).output.bypass.outcome = s.output.bypass.outcome ∧
    (slotExpires p s).output.bypass.mismatches = s.output.bypass.mismatches ∧
    (slotExpires p s).output.outdoor.outcome = s.output.outdoor.outcome ∧
    (slotExpires p s).output.outdoor.mismatches = s.output.outdoor.mismatches := by
  simp [slotExpires]

/-- What `takeIntent` leaves as it is. -/
@[simp] theorem takeIntent_frame (riser : Nat) (k : Key) (s : State) :
    (takeIntent riser k s).startUp = s.startUp ∧ (takeIntent riser k s).scanner = s.scanner ∧
    (takeIntent riser k s).rotation = s.rotation ∧ (takeIntent riser k s).reconciler = s.reconciler ∧
    (takeIntent riser k s).engine = s.engine ∧ (takeIntent riser k s).table = s.table ∧
    (takeIntent riser k s).allocator = s.allocator ∧ (takeIntent riser k s).fan = s.fan ∧
    (takeIntent riser k s).output = s.output ∧ (takeIntent riser k s).bus = s.bus ∧
    (takeIntent riser k s).responder = s.responder ∧ (takeIntent riser k s).counters = s.counters ∧
    (takeIntent riser k s).freeDraws = s.freeDraws ∧ (takeIntent riser k s).pending = s.pending ∧
    (takeIntent riser k s).stagger.pending = s.stagger.pending ∧
    (takeIntent riser k s).stagger.windowTimer = s.stagger.windowTimer ∧
    (takeIntent riser k s).stagger.slotTimer = s.stagger.slotTimer ∧
    (takeIntent riser k s).stagger.backoff = s.stagger.backoff := by
  unfold takeIntent; repeat' (first | (simp; done) | split)

/-- What `openWindow` leaves as it is. -/
@[simp] theorem openWindow_frame (s : State) :
    (openWindow s).startUp = s.startUp ∧ (openWindow s).scanner = s.scanner ∧ (openWindow s).rotation = s.rotation ∧
    (openWindow s).reconciler = s.reconciler ∧ (openWindow s).engine = s.engine ∧ (openWindow s).table = s.table ∧
    (openWindow s).allocator = s.allocator ∧ (openWindow s).fan = s.fan ∧ (openWindow s).output = s.output ∧
    (openWindow s).bus = s.bus ∧ (openWindow s).responder = s.responder ∧ (openWindow s).counters = s.counters ∧
    (openWindow s).freeDraws = s.freeDraws ∧ (openWindow s).pending = s.pending := by
  unfold openWindow; repeat' (first | (simp; done) | split)

/-- What `reportAllocate` leaves as it is. -/
@[simp] theorem reportAllocate_frame (p : Report) (s : State) :
    (reportAllocate p s).startUp = s.startUp ∧ (reportAllocate p s).scanner = s.scanner ∧
    (reportAllocate p s).reconciler = s.reconciler ∧ (reportAllocate p s).table = s.table ∧
    (reportAllocate p s).counters = s.counters ∧ (reportAllocate p s).freeDraws = s.freeDraws ∧
    (reportAllocate p s).pending = s.pending ∧ (reportAllocate p s).engine.regime = s.engine.regime ∧
    (reportAllocate p s).engine.candidate = s.engine.candidate ∧ (reportAllocate p s).engine.fallback = s.engine.fallback ∧
    (reportAllocate p s).engine.baseSpeed = s.engine.baseSpeed ∧ (reportAllocate p s).engine.speedTarget = s.engine.speedTarget ∧
    (reportAllocate p s).engine.reliefRequest = s.engine.reliefRequest ∧
    (reportAllocate p s).engine.reliefCap = s.engine.reliefCap ∧ (reportAllocate p s).engine.wfcRequest = s.engine.wfcRequest ∧
    (reportAllocate p s).engine.wfcCap = s.engine.wfcCap ∧ (reportAllocate p s).engine.forceBypass = s.engine.forceBypass ∧
    (reportAllocate p s).engine.decisionTimer = s.engine.decisionTimer ∧ (reportAllocate p s).output.wanted = s.output.wanted ∧
    (reportAllocate p s).output.test = s.output.test ∧ (reportAllocate p s).bus.receiver = s.bus.receiver ∧
    (reportAllocate p s).bus.transmitter = s.bus.transmitter ∧ (reportAllocate p s).bus.announceSlot = s.bus.announceSlot ∧
    (reportAllocate p s).bus.replySlots = s.bus.replySlots ∧ (reportAllocate p s).bus.remnant = s.bus.remnant ∧
    (reportAllocate p s).bus.announceTimer = s.bus.announceTimer ∧ (reportAllocate p s).bus.sequence = s.bus.sequence ∧
    (reportAllocate p s).bus.lastHeard = s.bus.lastHeard ∧ (reportAllocate p s).bus.heard = s.bus.heard ∧
    (reportAllocate p s).bus.clashTimer = s.bus.clashTimer ∧ (reportAllocate p s).bus.clash = s.bus.clash ∧
    (reportAllocate p s).bus.stuck = s.bus.stuck ∧ (reportAllocate p s).responder.sticky = s.responder.sticky ∧
    (reportAllocate p s).output.bypass.outcome = s.output.bypass.outcome ∧
    (reportAllocate p s).output.bypass.mismatches = s.output.bypass.mismatches ∧
    (reportAllocate p s).output.outdoor.outcome = s.output.outdoor.outcome ∧
    (reportAllocate p s).output.outdoor.mismatches = s.output.outdoor.mismatches := by
  unfold reportAllocate; dsimp only; split <;> split <;> simp

/-- What `reportRecompute` leaves as it is. -/
@[simp] theorem reportRecompute_frame (p : Report) (s : State) :
    (reportRecompute p s).startUp = s.startUp ∧ (reportRecompute p s).scanner = s.scanner ∧
    (reportRecompute p s).table = s.table ∧ (reportRecompute p s).counters = s.counters ∧
    (reportRecompute p s).freeDraws = s.freeDraws ∧ (reportRecompute p s).pending = s.pending ∧
    (reportRecompute p s).engine.regime = s.engine.regime ∧ (reportRecompute p s).engine.candidate = s.engine.candidate ∧
    (reportRecompute p s).engine.fallback = s.engine.fallback ∧ (reportRecompute p s).engine.baseSpeed = s.engine.baseSpeed ∧
    (reportRecompute p s).engine.speedTarget = s.engine.speedTarget ∧
    (reportRecompute p s).engine.reliefRequest = s.engine.reliefRequest ∧
    (reportRecompute p s).engine.reliefCap = s.engine.reliefCap ∧ (reportRecompute p s).engine.wfcRequest = s.engine.wfcRequest ∧
    (reportRecompute p s).engine.wfcCap = s.engine.wfcCap ∧ (reportRecompute p s).engine.forceBypass = s.engine.forceBypass ∧
    (reportRecompute p s).engine.decisionTimer = s.engine.decisionTimer ∧ (reportRecompute p s).output.wanted = s.output.wanted ∧
    (reportRecompute p s).output.test = s.output.test ∧ (reportRecompute p s).bus.receiver = s.bus.receiver ∧
    (reportRecompute p s).bus.transmitter = s.bus.transmitter ∧ (reportRecompute p s).bus.announceSlot = s.bus.announceSlot ∧
    (reportRecompute p s).bus.replySlots = s.bus.replySlots ∧ (reportRecompute p s).bus.remnant = s.bus.remnant ∧
    (reportRecompute p s).bus.announceTimer = s.bus.announceTimer ∧ (reportRecompute p s).bus.sequence = s.bus.sequence ∧
    (reportRecompute p s).bus.lastHeard = s.bus.lastHeard ∧ (reportRecompute p s).bus.heard = s.bus.heard ∧
    (reportRecompute p s).bus.clashTimer = s.bus.clashTimer ∧ (reportRecompute p s).bus.clash = s.bus.clash ∧
    (reportRecompute p s).bus.stuck = s.bus.stuck ∧ (reportRecompute p s).responder.sticky = s.responder.sticky ∧
    (reportRecompute p s).output.bypass.outcome = s.output.bypass.outcome ∧
    (reportRecompute p s).output.bypass.mismatches = s.output.bypass.mismatches ∧
    (reportRecompute p s).output.outdoor.outcome = s.output.outdoor.outcome ∧
    (reportRecompute p s).output.outdoor.mismatches = s.output.outdoor.mismatches ∧
    (reportRecompute p s).reconciler.own = s.reconciler.own ∧
    (reportRecompute p s).reconciler.disagreeRun = s.reconciler.disagreeRun ∧
    (reportRecompute p s).reconciler.agreeRun = s.reconciler.agreeRun := by
  unfold reportRecompute; split <;> simp

/-- What `reportChange` leaves as it is. -/
@[simp] theorem reportChange_frame (order : ReportOrder) (p : Report) (s : State) :
    (reportChange order p s).startUp = s.startUp ∧ (reportChange order p s).scanner = s.scanner ∧
    (reportChange order p s).table = s.table ∧ (reportChange order p s).counters = s.counters ∧
    (reportChange order p s).freeDraws = s.freeDraws ∧ (reportChange order p s).pending = s.pending ∧
    (reportChange order p s).engine.regime = s.engine.regime ∧ (reportChange order p s).engine.candidate = s.engine.candidate ∧
    (reportChange order p s).engine.fallback = s.engine.fallback ∧
    (reportChange order p s).engine.baseSpeed = s.engine.baseSpeed ∧
    (reportChange order p s).engine.speedTarget = s.engine.speedTarget ∧
    (reportChange order p s).engine.reliefRequest = s.engine.reliefRequest ∧
    (reportChange order p s).engine.reliefCap = s.engine.reliefCap ∧
    (reportChange order p s).engine.wfcRequest = s.engine.wfcRequest ∧ (reportChange order p s).engine.wfcCap = s.engine.wfcCap ∧
    (reportChange order p s).engine.forceBypass = s.engine.forceBypass ∧
    (reportChange order p s).engine.decisionTimer = s.engine.decisionTimer ∧
    (reportChange order p s).output.wanted = s.output.wanted ∧ (reportChange order p s).output.test = s.output.test ∧
    (reportChange order p s).bus.receiver = s.bus.receiver ∧ (reportChange order p s).bus.transmitter = s.bus.transmitter ∧
    (reportChange order p s).bus.announceSlot = s.bus.announceSlot ∧ (reportChange order p s).bus.replySlots = s.bus.replySlots ∧
    (reportChange order p s).bus.remnant = s.bus.remnant ∧ (reportChange order p s).bus.announceTimer = s.bus.announceTimer ∧
    (reportChange order p s).bus.sequence = s.bus.sequence ∧ (reportChange order p s).bus.lastHeard = s.bus.lastHeard ∧
    (reportChange order p s).bus.heard = s.bus.heard ∧ (reportChange order p s).bus.clashTimer = s.bus.clashTimer ∧
    (reportChange order p s).bus.clash = s.bus.clash ∧ (reportChange order p s).bus.stuck = s.bus.stuck ∧
    (reportChange order p s).responder.sticky = s.responder.sticky ∧
    (reportChange order p s).output.bypass.outcome = s.output.bypass.outcome ∧
    (reportChange order p s).output.bypass.mismatches = s.output.bypass.mismatches ∧
    (reportChange order p s).output.outdoor.outcome = s.output.outdoor.outcome ∧
    (reportChange order p s).output.outdoor.mismatches = s.output.outdoor.mismatches ∧
    (reportChange order p s).reconciler.own = s.reconciler.own ∧
    (reportChange order p s).reconciler.disagreeRun = s.reconciler.disagreeRun ∧
    (reportChange order p s).reconciler.agreeRun = s.reconciler.agreeRun := by
  unfold reportChange; dsimp only; cases order <;> (split <;> simp)

/-- What `acceptAnnounce` leaves as it is. -/
@[simp] theorem acceptAnnounce_frame (order : ReportOrder) (old : PeerRecord) (gaps : Nat) (a : Announcement) (s : State) :
    (acceptAnnounce order old gaps a s).startUp = s.startUp ∧ (acceptAnnounce order old gaps a s).scanner = s.scanner ∧
    (acceptAnnounce order old gaps a s).counters = s.counters ∧ (acceptAnnounce order old gaps a s).freeDraws = s.freeDraws ∧
    (acceptAnnounce order old gaps a s).pending = s.pending ∧
    (acceptAnnounce order old gaps a s).engine.regime = s.engine.regime ∧
    (acceptAnnounce order old gaps a s).engine.candidate = s.engine.candidate ∧
    (acceptAnnounce order old gaps a s).engine.fallback = s.engine.fallback ∧
    (acceptAnnounce order old gaps a s).engine.baseSpeed = s.engine.baseSpeed ∧
    (acceptAnnounce order old gaps a s).engine.speedTarget = s.engine.speedTarget ∧
    (acceptAnnounce order old gaps a s).engine.reliefRequest = s.engine.reliefRequest ∧
    (acceptAnnounce order old gaps a s).engine.reliefCap = s.engine.reliefCap ∧
    (acceptAnnounce order old gaps a s).engine.wfcRequest = s.engine.wfcRequest ∧
    (acceptAnnounce order old gaps a s).engine.wfcCap = s.engine.wfcCap ∧
    (acceptAnnounce order old gaps a s).engine.forceBypass = s.engine.forceBypass ∧
    (acceptAnnounce order old gaps a s).engine.decisionTimer = s.engine.decisionTimer ∧
    (acceptAnnounce order old gaps a s).output.wanted = s.output.wanted ∧
    (acceptAnnounce order old gaps a s).output.test = s.output.test ∧
    (acceptAnnounce order old gaps a s).bus.receiver = s.bus.receiver ∧
    (acceptAnnounce order old gaps a s).bus.transmitter = s.bus.transmitter ∧
    (acceptAnnounce order old gaps a s).bus.announceSlot = s.bus.announceSlot ∧
    (acceptAnnounce order old gaps a s).bus.replySlots = s.bus.replySlots ∧
    (acceptAnnounce order old gaps a s).bus.remnant = s.bus.remnant ∧
    (acceptAnnounce order old gaps a s).bus.announceTimer = s.bus.announceTimer ∧
    (acceptAnnounce order old gaps a s).bus.sequence = s.bus.sequence ∧
    (acceptAnnounce order old gaps a s).bus.lastHeard = s.bus.lastHeard ∧
    (acceptAnnounce order old gaps a s).bus.heard = s.bus.heard ∧
    (acceptAnnounce order old gaps a s).bus.clashTimer = s.bus.clashTimer ∧
    (acceptAnnounce order old gaps a s).bus.clash = s.bus.clash ∧ (acceptAnnounce order old gaps a s).bus.stuck = s.bus.stuck ∧
    (acceptAnnounce order old gaps a s).responder.sticky = s.responder.sticky ∧
    (acceptAnnounce order old gaps a s).output.bypass.outcome = s.output.bypass.outcome ∧
    (acceptAnnounce order old gaps a s).output.bypass.mismatches = s.output.bypass.mismatches ∧
    (acceptAnnounce order old gaps a s).output.outdoor.outcome = s.output.outdoor.outcome ∧
    (acceptAnnounce order old gaps a s).output.outdoor.mismatches = s.output.outdoor.mismatches ∧
    (acceptAnnounce order old gaps a s).reconciler.own = s.reconciler.own ∧
    (acceptAnnounce order old gaps a s).reconciler.disagreeRun = s.reconciler.disagreeRun ∧
    (acceptAnnounce order old gaps a s).reconciler.agreeRun = s.reconciler.agreeRun := by
  simp [acceptAnnounce]

/-- What `knownAnnounce` leaves as it is. -/
@[simp] theorem knownAnnounce_frame (order : ReportOrder) (r : PeerRecord) (a : Announcement) (s : State) :
    (knownAnnounce order r a s).startUp = s.startUp ∧ (knownAnnounce order r a s).scanner = s.scanner ∧
    (knownAnnounce order r a s).freeDraws = s.freeDraws ∧ (knownAnnounce order r a s).pending = s.pending ∧
    (knownAnnounce order r a s).engine.regime = s.engine.regime ∧
    (knownAnnounce order r a s).engine.candidate = s.engine.candidate ∧
    (knownAnnounce order r a s).engine.fallback = s.engine.fallback ∧
    (knownAnnounce order r a s).engine.baseSpeed = s.engine.baseSpeed ∧
    (knownAnnounce order r a s).engine.speedTarget = s.engine.speedTarget ∧
    (knownAnnounce order r a s).engine.reliefRequest = s.engine.reliefRequest ∧
    (knownAnnounce order r a s).engine.reliefCap = s.engine.reliefCap ∧
    (knownAnnounce order r a s).engine.wfcRequest = s.engine.wfcRequest ∧
    (knownAnnounce order r a s).engine.wfcCap = s.engine.wfcCap ∧
    (knownAnnounce order r a s).engine.forceBypass = s.engine.forceBypass ∧
    (knownAnnounce order r a s).engine.decisionTimer = s.engine.decisionTimer ∧
    (knownAnnounce order r a s).output.wanted = s.output.wanted ∧ (knownAnnounce order r a s).output.test = s.output.test ∧
    (knownAnnounce order r a s).bus.receiver = s.bus.receiver ∧ (knownAnnounce order r a s).bus.transmitter = s.bus.transmitter ∧
    (knownAnnounce order r a s).bus.announceSlot = s.bus.announceSlot ∧
    (knownAnnounce order r a s).bus.replySlots = s.bus.replySlots ∧ (knownAnnounce order r a s).bus.remnant = s.bus.remnant ∧
    (knownAnnounce order r a s).bus.announceTimer = s.bus.announceTimer ∧
    (knownAnnounce order r a s).bus.sequence = s.bus.sequence ∧ (knownAnnounce order r a s).bus.lastHeard = s.bus.lastHeard ∧
    (knownAnnounce order r a s).bus.heard = s.bus.heard ∧ (knownAnnounce order r a s).bus.clashTimer = s.bus.clashTimer ∧
    (knownAnnounce order r a s).bus.clash = s.bus.clash ∧ (knownAnnounce order r a s).bus.stuck = s.bus.stuck ∧
    (knownAnnounce order r a s).responder.sticky = s.responder.sticky ∧
    (knownAnnounce order r a s).output.bypass.outcome = s.output.bypass.outcome ∧
    (knownAnnounce order r a s).output.bypass.mismatches = s.output.bypass.mismatches ∧
    (knownAnnounce order r a s).output.outdoor.outcome = s.output.outdoor.outcome ∧
    (knownAnnounce order r a s).output.outdoor.mismatches = s.output.outdoor.mismatches ∧
    (knownAnnounce order r a s).reconciler.own = s.reconciler.own ∧
    (knownAnnounce order r a s).reconciler.disagreeRun = s.reconciler.disagreeRun ∧
    (knownAnnounce order r a s).reconciler.agreeRun = s.reconciler.agreeRun ∧
    (knownAnnounce order r a s).counters.crcErrors = s.counters.crcErrors ∧
    (knownAnnounce order r a s).counters.framesAbandoned = s.counters.framesAbandoned ∧
    (knownAnnounce order r a s).counters.contentionsLost = s.counters.contentionsLost ∧
    (knownAnnounce order r a s).counters.queriesDropped = s.counters.queriesDropped ∧
    (knownAnnounce order r a s).counters.sampleRejects = s.counters.sampleRejects ∧
    (knownAnnounce order r a s).counters.scanOverruns = s.counters.scanOverruns := by
  unfold knownAnnounce; repeat' (first | (simp; done) | split)

/-- What `insertNew` leaves as it is. -/
@[simp] theorem insertNew_frame (order : ReportOrder) (evicted : Option PeerRecord) (new : PeerRecord) (s : State) :
    (insertNew order evicted new s).startUp = s.startUp ∧ (insertNew order evicted new s).scanner = s.scanner ∧
    (insertNew order evicted new s).counters = s.counters ∧ (insertNew order evicted new s).freeDraws = s.freeDraws ∧
    (insertNew order evicted new s).pending = s.pending ∧ (insertNew order evicted new s).engine.regime = s.engine.regime ∧
    (insertNew order evicted new s).engine.candidate = s.engine.candidate ∧
    (insertNew order evicted new s).engine.fallback = s.engine.fallback ∧
    (insertNew order evicted new s).engine.baseSpeed = s.engine.baseSpeed ∧
    (insertNew order evicted new s).engine.speedTarget = s.engine.speedTarget ∧
    (insertNew order evicted new s).engine.reliefRequest = s.engine.reliefRequest ∧
    (insertNew order evicted new s).engine.reliefCap = s.engine.reliefCap ∧
    (insertNew order evicted new s).engine.wfcRequest = s.engine.wfcRequest ∧
    (insertNew order evicted new s).engine.wfcCap = s.engine.wfcCap ∧
    (insertNew order evicted new s).engine.forceBypass = s.engine.forceBypass ∧
    (insertNew order evicted new s).engine.decisionTimer = s.engine.decisionTimer ∧
    (insertNew order evicted new s).output.wanted = s.output.wanted ∧
    (insertNew order evicted new s).output.test = s.output.test ∧ (insertNew order evicted new s).bus.receiver = s.bus.receiver ∧
    (insertNew order evicted new s).bus.transmitter = s.bus.transmitter ∧
    (insertNew order evicted new s).bus.announceSlot = s.bus.announceSlot ∧
    (insertNew order evicted new s).bus.replySlots = s.bus.replySlots ∧
    (insertNew order evicted new s).bus.remnant = s.bus.remnant ∧
    (insertNew order evicted new s).bus.announceTimer = s.bus.announceTimer ∧
    (insertNew order evicted new s).bus.sequence = s.bus.sequence ∧
    (insertNew order evicted new s).bus.lastHeard = s.bus.lastHeard ∧ (insertNew order evicted new s).bus.heard = s.bus.heard ∧
    (insertNew order evicted new s).bus.clashTimer = s.bus.clashTimer ∧ (insertNew order evicted new s).bus.clash = s.bus.clash ∧
    (insertNew order evicted new s).bus.stuck = s.bus.stuck ∧
    (insertNew order evicted new s).responder.sticky = s.responder.sticky ∧
    (insertNew order evicted new s).output.bypass.outcome = s.output.bypass.outcome ∧
    (insertNew order evicted new s).output.bypass.mismatches = s.output.bypass.mismatches ∧
    (insertNew order evicted new s).output.outdoor.outcome = s.output.outdoor.outcome ∧
    (insertNew order evicted new s).output.outdoor.mismatches = s.output.outdoor.mismatches ∧
    (insertNew order evicted new s).reconciler.own = s.reconciler.own ∧
    (insertNew order evicted new s).reconciler.disagreeRun = s.reconciler.disagreeRun ∧
    (insertNew order evicted new s).reconciler.agreeRun = s.reconciler.agreeRun := by
  simp [insertNew]

/-- What `newAnnounce` leaves as it is. -/
@[simp] theorem newAnnounce_frame (order : ReportOrder) (source : Nat) (a : Announcement) (s : State) :
    (newAnnounce order source a s).startUp = s.startUp ∧ (newAnnounce order source a s).scanner = s.scanner ∧
    (newAnnounce order source a s).freeDraws = s.freeDraws ∧ (newAnnounce order source a s).pending = s.pending ∧
    (newAnnounce order source a s).engine.regime = s.engine.regime ∧
    (newAnnounce order source a s).engine.candidate = s.engine.candidate ∧
    (newAnnounce order source a s).engine.fallback = s.engine.fallback ∧
    (newAnnounce order source a s).engine.baseSpeed = s.engine.baseSpeed ∧
    (newAnnounce order source a s).engine.speedTarget = s.engine.speedTarget ∧
    (newAnnounce order source a s).engine.reliefRequest = s.engine.reliefRequest ∧
    (newAnnounce order source a s).engine.reliefCap = s.engine.reliefCap ∧
    (newAnnounce order source a s).engine.wfcRequest = s.engine.wfcRequest ∧
    (newAnnounce order source a s).engine.wfcCap = s.engine.wfcCap ∧
    (newAnnounce order source a s).engine.forceBypass = s.engine.forceBypass ∧
    (newAnnounce order source a s).engine.decisionTimer = s.engine.decisionTimer ∧
    (newAnnounce order source a s).output.wanted = s.output.wanted ∧ (newAnnounce order source a s).output.test = s.output.test ∧
    (newAnnounce order source a s).bus.receiver = s.bus.receiver ∧
    (newAnnounce order source a s).bus.transmitter = s.bus.transmitter ∧
    (newAnnounce order source a s).bus.announceSlot = s.bus.announceSlot ∧
    (newAnnounce order source a s).bus.replySlots = s.bus.replySlots ∧
    (newAnnounce order source a s).bus.remnant = s.bus.remnant ∧
    (newAnnounce order source a s).bus.announceTimer = s.bus.announceTimer ∧
    (newAnnounce order source a s).bus.sequence = s.bus.sequence ∧
    (newAnnounce order source a s).bus.lastHeard = s.bus.lastHeard ∧ (newAnnounce order source a s).bus.heard = s.bus.heard ∧
    (newAnnounce order source a s).bus.clashTimer = s.bus.clashTimer ∧ (newAnnounce order source a s).bus.clash = s.bus.clash ∧
    (newAnnounce order source a s).bus.stuck = s.bus.stuck ∧
    (newAnnounce order source a s).responder.sticky = s.responder.sticky ∧
    (newAnnounce order source a s).output.bypass.outcome = s.output.bypass.outcome ∧
    (newAnnounce order source a s).output.bypass.mismatches = s.output.bypass.mismatches ∧
    (newAnnounce order source a s).output.outdoor.outcome = s.output.outdoor.outcome ∧
    (newAnnounce order source a s).output.outdoor.mismatches = s.output.outdoor.mismatches ∧
    (newAnnounce order source a s).reconciler.own = s.reconciler.own ∧
    (newAnnounce order source a s).reconciler.disagreeRun = s.reconciler.disagreeRun ∧
    (newAnnounce order source a s).reconciler.agreeRun = s.reconciler.agreeRun ∧
    (newAnnounce order source a s).counters.crcErrors = s.counters.crcErrors ∧
    (newAnnounce order source a s).counters.framesAbandoned = s.counters.framesAbandoned ∧
    (newAnnounce order source a s).counters.contentionsLost = s.counters.contentionsLost ∧
    (newAnnounce order source a s).counters.queriesDropped = s.counters.queriesDropped ∧
    (newAnnounce order source a s).counters.sampleRejects = s.counters.sampleRejects ∧
    (newAnnounce order source a s).counters.scanOverruns = s.counters.scanOverruns := by
  unfold newAnnounce; dsimp only; repeat' (first | (simp; done) | split)

/-- What `takeAnnounce` leaves as it is. -/
@[simp] theorem takeAnnounce_frame (order : ReportOrder) (source : Nat) (a : Announcement) (s : State) :
    (takeAnnounce order source a s).startUp = s.startUp ∧ (takeAnnounce order source a s).scanner = s.scanner ∧
    (takeAnnounce order source a s).freeDraws = s.freeDraws ∧ (takeAnnounce order source a s).pending = s.pending ∧
    (takeAnnounce order source a s).engine.regime = s.engine.regime ∧
    (takeAnnounce order source a s).engine.candidate = s.engine.candidate ∧
    (takeAnnounce order source a s).engine.fallback = s.engine.fallback ∧
    (takeAnnounce order source a s).engine.baseSpeed = s.engine.baseSpeed ∧
    (takeAnnounce order source a s).engine.speedTarget = s.engine.speedTarget ∧
    (takeAnnounce order source a s).engine.reliefRequest = s.engine.reliefRequest ∧
    (takeAnnounce order source a s).engine.reliefCap = s.engine.reliefCap ∧
    (takeAnnounce order source a s).engine.wfcRequest = s.engine.wfcRequest ∧
    (takeAnnounce order source a s).engine.wfcCap = s.engine.wfcCap ∧
    (takeAnnounce order source a s).engine.forceBypass = s.engine.forceBypass ∧
    (takeAnnounce order source a s).engine.decisionTimer = s.engine.decisionTimer ∧
    (takeAnnounce order source a s).output.wanted = s.output.wanted ∧
    (takeAnnounce order source a s).output.test = s.output.test ∧ (takeAnnounce order source a s).bus.receiver = s.bus.receiver ∧
    (takeAnnounce order source a s).bus.transmitter = s.bus.transmitter ∧
    (takeAnnounce order source a s).bus.announceSlot = s.bus.announceSlot ∧
    (takeAnnounce order source a s).bus.replySlots = s.bus.replySlots ∧
    (takeAnnounce order source a s).bus.remnant = s.bus.remnant ∧
    (takeAnnounce order source a s).bus.announceTimer = s.bus.announceTimer ∧
    (takeAnnounce order source a s).bus.sequence = s.bus.sequence ∧
    (takeAnnounce order source a s).bus.lastHeard = s.bus.lastHeard ∧ (takeAnnounce order source a s).bus.heard = s.bus.heard ∧
    (takeAnnounce order source a s).bus.clashTimer = s.bus.clashTimer ∧ (takeAnnounce order source a s).bus.clash = s.bus.clash ∧
    (takeAnnounce order source a s).bus.stuck = s.bus.stuck ∧
    (takeAnnounce order source a s).responder.sticky = s.responder.sticky ∧
    (takeAnnounce order source a s).output.bypass.outcome = s.output.bypass.outcome ∧
    (takeAnnounce order source a s).output.bypass.mismatches = s.output.bypass.mismatches ∧
    (takeAnnounce order source a s).output.outdoor.outcome = s.output.outdoor.outcome ∧
    (takeAnnounce order source a s).output.outdoor.mismatches = s.output.outdoor.mismatches ∧
    (takeAnnounce order source a s).reconciler.own = s.reconciler.own ∧
    (takeAnnounce order source a s).reconciler.disagreeRun = s.reconciler.disagreeRun ∧
    (takeAnnounce order source a s).reconciler.agreeRun = s.reconciler.agreeRun ∧
    (takeAnnounce order source a s).counters.crcErrors = s.counters.crcErrors ∧
    (takeAnnounce order source a s).counters.framesAbandoned = s.counters.framesAbandoned ∧
    (takeAnnounce order source a s).counters.contentionsLost = s.counters.contentionsLost ∧
    (takeAnnounce order source a s).counters.queriesDropped = s.counters.queriesDropped ∧
    (takeAnnounce order source a s).counters.sampleRejects = s.counters.sampleRejects ∧
    (takeAnnounce order source a s).counters.scanOverruns = s.counters.scanOverruns := by
  unfold takeAnnounce; repeat' (first | (simp; done) | split)

/-- What `coast` leaves as it is. -/
@[simp] theorem coast_frame (order : ReportOrder) (r : PeerRecord) (s : State) :
    (coast order r s).startUp = s.startUp ∧ (coast order r s).scanner = s.scanner ∧ (coast order r s).counters = s.counters ∧
    (coast order r s).freeDraws = s.freeDraws ∧ (coast order r s).pending = s.pending ∧
    (coast order r s).engine.regime = s.engine.regime ∧ (coast order r s).engine.candidate = s.engine.candidate ∧
    (coast order r s).engine.fallback = s.engine.fallback ∧ (coast order r s).engine.baseSpeed = s.engine.baseSpeed ∧
    (coast order r s).engine.speedTarget = s.engine.speedTarget ∧
    (coast order r s).engine.reliefRequest = s.engine.reliefRequest ∧ (coast order r s).engine.reliefCap = s.engine.reliefCap ∧
    (coast order r s).engine.wfcRequest = s.engine.wfcRequest ∧ (coast order r s).engine.wfcCap = s.engine.wfcCap ∧
    (coast order r s).engine.forceBypass = s.engine.forceBypass ∧
    (coast order r s).engine.decisionTimer = s.engine.decisionTimer ∧ (coast order r s).output.wanted = s.output.wanted ∧
    (coast order r s).output.test = s.output.test ∧ (coast order r s).bus.receiver = s.bus.receiver ∧
    (coast order r s).bus.transmitter = s.bus.transmitter ∧ (coast order r s).bus.announceSlot = s.bus.announceSlot ∧
    (coast order r s).bus.replySlots = s.bus.replySlots ∧ (coast order r s).bus.remnant = s.bus.remnant ∧
    (coast order r s).bus.announceTimer = s.bus.announceTimer ∧ (coast order r s).bus.sequence = s.bus.sequence ∧
    (coast order r s).bus.lastHeard = s.bus.lastHeard ∧ (coast order r s).bus.heard = s.bus.heard ∧
    (coast order r s).bus.clashTimer = s.bus.clashTimer ∧ (coast order r s).bus.clash = s.bus.clash ∧
    (coast order r s).bus.stuck = s.bus.stuck ∧ (coast order r s).responder.sticky = s.responder.sticky ∧
    (coast order r s).output.bypass.outcome = s.output.bypass.outcome ∧
    (coast order r s).output.bypass.mismatches = s.output.bypass.mismatches ∧
    (coast order r s).output.outdoor.outcome = s.output.outdoor.outcome ∧
    (coast order r s).output.outdoor.mismatches = s.output.outdoor.mismatches ∧
    (coast order r s).reconciler.own = s.reconciler.own ∧ (coast order r s).reconciler.disagreeRun = s.reconciler.disagreeRun ∧
    (coast order r s).reconciler.agreeRun = s.reconciler.agreeRun := by
  simp [coast]

/-- What `lose` leaves as it is. -/
@[simp] theorem lose_frame (r : PeerRecord) (s : State) :
    (lose r s).startUp = s.startUp ∧ (lose r s).scanner = s.scanner ∧ (lose r s).reconciler = s.reconciler ∧
    (lose r s).counters = s.counters ∧ (lose r s).freeDraws = s.freeDraws ∧ (lose r s).pending = s.pending ∧
    (lose r s).engine.regime = s.engine.regime ∧ (lose r s).engine.candidate = s.engine.candidate ∧
    (lose r s).engine.fallback = s.engine.fallback ∧ (lose r s).engine.baseSpeed = s.engine.baseSpeed ∧
    (lose r s).engine.speedTarget = s.engine.speedTarget ∧ (lose r s).engine.reliefRequest = s.engine.reliefRequest ∧
    (lose r s).engine.reliefCap = s.engine.reliefCap ∧ (lose r s).engine.wfcRequest = s.engine.wfcRequest ∧
    (lose r s).engine.wfcCap = s.engine.wfcCap ∧ (lose r s).engine.forceBypass = s.engine.forceBypass ∧
    (lose r s).engine.decisionTimer = s.engine.decisionTimer ∧ (lose r s).output.wanted = s.output.wanted ∧
    (lose r s).output.test = s.output.test ∧ (lose r s).bus.receiver = s.bus.receiver ∧
    (lose r s).bus.transmitter = s.bus.transmitter ∧ (lose r s).bus.announceSlot = s.bus.announceSlot ∧
    (lose r s).bus.replySlots = s.bus.replySlots ∧ (lose r s).bus.remnant = s.bus.remnant ∧
    (lose r s).bus.announceTimer = s.bus.announceTimer ∧ (lose r s).bus.sequence = s.bus.sequence ∧
    (lose r s).bus.lastHeard = s.bus.lastHeard ∧ (lose r s).bus.heard = s.bus.heard ∧
    (lose r s).bus.clashTimer = s.bus.clashTimer ∧ (lose r s).bus.clash = s.bus.clash ∧ (lose r s).bus.stuck = s.bus.stuck ∧
    (lose r s).responder.sticky = s.responder.sticky ∧ (lose r s).output.bypass.outcome = s.output.bypass.outcome ∧
    (lose r s).output.bypass.mismatches = s.output.bypass.mismatches ∧
    (lose r s).output.outdoor.outcome = s.output.outdoor.outcome ∧
    (lose r s).output.outdoor.mismatches = s.output.outdoor.mismatches := by
  unfold lose reportChange; simp [ageReport, reportRecompute]; split <;> simp

/-- What `free` leaves as it is. -/
@[simp] theorem free_frame (order : ReportOrder) (r : PeerRecord) (s : State) :
    (free order r s).startUp = s.startUp ∧ (free order r s).scanner = s.scanner ∧ (free order r s).counters = s.counters ∧
    (free order r s).freeDraws = s.freeDraws ∧ (free order r s).pending = s.pending ∧
    (free order r s).engine.regime = s.engine.regime ∧ (free order r s).engine.candidate = s.engine.candidate ∧
    (free order r s).engine.fallback = s.engine.fallback ∧ (free order r s).engine.baseSpeed = s.engine.baseSpeed ∧
    (free order r s).engine.speedTarget = s.engine.speedTarget ∧ (free order r s).engine.reliefRequest = s.engine.reliefRequest ∧
    (free order r s).engine.reliefCap = s.engine.reliefCap ∧ (free order r s).engine.wfcRequest = s.engine.wfcRequest ∧
    (free order r s).engine.wfcCap = s.engine.wfcCap ∧ (free order r s).engine.forceBypass = s.engine.forceBypass ∧
    (free order r s).engine.decisionTimer = s.engine.decisionTimer ∧ (free order r s).output.wanted = s.output.wanted ∧
    (free order r s).output.test = s.output.test ∧ (free order r s).bus.receiver = s.bus.receiver ∧
    (free order r s).bus.transmitter = s.bus.transmitter ∧ (free order r s).bus.announceSlot = s.bus.announceSlot ∧
    (free order r s).bus.replySlots = s.bus.replySlots ∧ (free order r s).bus.remnant = s.bus.remnant ∧
    (free order r s).bus.announceTimer = s.bus.announceTimer ∧ (free order r s).bus.sequence = s.bus.sequence ∧
    (free order r s).bus.lastHeard = s.bus.lastHeard ∧ (free order r s).bus.heard = s.bus.heard ∧
    (free order r s).bus.clashTimer = s.bus.clashTimer ∧ (free order r s).bus.clash = s.bus.clash ∧
    (free order r s).bus.stuck = s.bus.stuck ∧ (free order r s).responder.sticky = s.responder.sticky ∧
    (free order r s).output.bypass.outcome = s.output.bypass.outcome ∧
    (free order r s).output.bypass.mismatches = s.output.bypass.mismatches ∧
    (free order r s).output.outdoor.outcome = s.output.outdoor.outcome ∧
    (free order r s).output.outdoor.mismatches = s.output.outdoor.mismatches ∧
    (free order r s).reconciler.own = s.reconciler.own ∧ (free order r s).reconciler.disagreeRun = s.reconciler.disagreeRun ∧
    (free order r s).reconciler.agreeRun = s.reconciler.agreeRun := by
  simp [free]

/-- What `discardIncomplete` leaves as it is. -/
@[simp] theorem discardIncomplete_frame (r : Receiver) (s : State) :
    (discardIncomplete r s).startUp = s.startUp ∧ (discardIncomplete r s).scanner = s.scanner ∧
    (discardIncomplete r s).rotation = s.rotation ∧ (discardIncomplete r s).reconciler = s.reconciler ∧
    (discardIncomplete r s).engine = s.engine ∧ (discardIncomplete r s).table = s.table ∧
    (discardIncomplete r s).allocator = s.allocator ∧ (discardIncomplete r s).stagger = s.stagger ∧
    (discardIncomplete r s).fan = s.fan ∧ (discardIncomplete r s).output = s.output ∧
    (discardIncomplete r s).responder = s.responder ∧ (discardIncomplete r s).freeDraws = s.freeDraws ∧
    (discardIncomplete r s).pending = s.pending ∧ (discardIncomplete r s).bus.transmitter = s.bus.transmitter ∧
    (discardIncomplete r s).bus.announceSlot = s.bus.announceSlot ∧ (discardIncomplete r s).bus.intentSlot = s.bus.intentSlot ∧
    (discardIncomplete r s).bus.replySlots = s.bus.replySlots ∧ (discardIncomplete r s).bus.onAir = s.bus.onAir ∧
    (discardIncomplete r s).bus.announceTimer = s.bus.announceTimer ∧ (discardIncomplete r s).bus.sequence = s.bus.sequence ∧
    (discardIncomplete r s).bus.lastHeard = s.bus.lastHeard ∧ (discardIncomplete r s).bus.heard = s.bus.heard ∧
    (discardIncomplete r s).bus.clashTimer = s.bus.clashTimer ∧ (discardIncomplete r s).bus.clash = s.bus.clash ∧
    (discardIncomplete r s).bus.stuck = s.bus.stuck := by
  unfold discardIncomplete; repeat' (first | (simp; done) | split)

/-- What `collectingFails` leaves as it is. -/
@[simp] theorem collectingFails_frame (s : State) :
    (collectingFails s).startUp = s.startUp ∧ (collectingFails s).scanner = s.scanner ∧
    (collectingFails s).rotation = s.rotation ∧ (collectingFails s).reconciler = s.reconciler ∧
    (collectingFails s).engine = s.engine ∧ (collectingFails s).table = s.table ∧ (collectingFails s).allocator = s.allocator ∧
    (collectingFails s).stagger = s.stagger ∧ (collectingFails s).fan = s.fan ∧ (collectingFails s).output = s.output ∧
    (collectingFails s).responder = s.responder ∧ (collectingFails s).freeDraws = s.freeDraws ∧
    (collectingFails s).pending = s.pending ∧ (collectingFails s).bus.transmitter = s.bus.transmitter ∧
    (collectingFails s).bus.announceSlot = s.bus.announceSlot ∧ (collectingFails s).bus.intentSlot = s.bus.intentSlot ∧
    (collectingFails s).bus.replySlots = s.bus.replySlots ∧ (collectingFails s).bus.onAir = s.bus.onAir ∧
    (collectingFails s).bus.announceTimer = s.bus.announceTimer ∧ (collectingFails s).bus.sequence = s.bus.sequence ∧
    (collectingFails s).bus.lastHeard = s.bus.lastHeard ∧ (collectingFails s).bus.heard = s.bus.heard ∧
    (collectingFails s).bus.clashTimer = s.bus.clashTimer ∧ (collectingFails s).bus.clash = s.bus.clash ∧
    (collectingFails s).bus.stuck = s.bus.stuck := by
  unfold collectingFails; repeat' (first | (simp; done) | split)

/-- What `receiverIdles` leaves as it is. -/
@[simp] theorem receiverIdles_frame (s : State) :
    (receiverIdles s).startUp = s.startUp ∧ (receiverIdles s).scanner = s.scanner ∧ (receiverIdles s).rotation = s.rotation ∧
    (receiverIdles s).reconciler = s.reconciler ∧ (receiverIdles s).engine = s.engine ∧ (receiverIdles s).table = s.table ∧
    (receiverIdles s).allocator = s.allocator ∧ (receiverIdles s).stagger = s.stagger ∧ (receiverIdles s).fan = s.fan ∧
    (receiverIdles s).output = s.output ∧ (receiverIdles s).responder = s.responder ∧ (receiverIdles s).freeDraws = s.freeDraws ∧
    (receiverIdles s).pending = s.pending ∧ (receiverIdles s).bus.transmitter = s.bus.transmitter ∧
    (receiverIdles s).bus.announceSlot = s.bus.announceSlot ∧ (receiverIdles s).bus.intentSlot = s.bus.intentSlot ∧
    (receiverIdles s).bus.replySlots = s.bus.replySlots ∧ (receiverIdles s).bus.onAir = s.bus.onAir ∧
    (receiverIdles s).bus.announceTimer = s.bus.announceTimer ∧ (receiverIdles s).bus.sequence = s.bus.sequence ∧
    (receiverIdles s).bus.lastHeard = s.bus.lastHeard ∧ (receiverIdles s).bus.heard = s.bus.heard ∧
    (receiverIdles s).bus.clashTimer = s.bus.clashTimer ∧ (receiverIdles s).bus.clash = s.bus.clash ∧
    (receiverIdles s).bus.stuck = s.bus.stuck := by
  unfold receiverIdles; repeat' (first | (simp; done) | split)

/-- What `emptySlot` leaves as it is. -/
@[simp] theorem emptySlot_frame (t : Transmission) (s : State) :
    (emptySlot t s).startUp = s.startUp ∧ (emptySlot t s).scanner = s.scanner ∧ (emptySlot t s).rotation = s.rotation ∧
    (emptySlot t s).reconciler = s.reconciler ∧ (emptySlot t s).engine = s.engine ∧ (emptySlot t s).table = s.table ∧
    (emptySlot t s).allocator = s.allocator ∧ (emptySlot t s).stagger = s.stagger ∧ (emptySlot t s).fan = s.fan ∧
    (emptySlot t s).output = s.output ∧ (emptySlot t s).responder = s.responder ∧ (emptySlot t s).counters = s.counters ∧
    (emptySlot t s).freeDraws = s.freeDraws ∧ (emptySlot t s).pending = s.pending ∧
    (emptySlot t s).bus.receiver = s.bus.receiver ∧ (emptySlot t s).bus.transmitter = s.bus.transmitter ∧
    (emptySlot t s).bus.onAir = s.bus.onAir ∧ (emptySlot t s).bus.remnant = s.bus.remnant ∧
    (emptySlot t s).bus.announceTimer = s.bus.announceTimer ∧ (emptySlot t s).bus.sequence = s.bus.sequence ∧
    (emptySlot t s).bus.lastHeard = s.bus.lastHeard ∧ (emptySlot t s).bus.heard = s.bus.heard ∧
    (emptySlot t s).bus.clashTimer = s.bus.clashTimer ∧ (emptySlot t s).bus.clash = s.bus.clash ∧
    (emptySlot t s).bus.stuck = s.bus.stuck := by
  unfold emptySlot; repeat' (first | (simp; done) | split)

/-- What `endTransmission` leaves as it is. -/
@[simp] theorem endTransmission_frame (r : Receiver) (remnant : Bool) (t : Transmission) (s : State) :
    (endTransmission r remnant t s).startUp = s.startUp ∧ (endTransmission r remnant t s).scanner = s.scanner ∧
    (endTransmission r remnant t s).rotation = s.rotation ∧ (endTransmission r remnant t s).reconciler = s.reconciler ∧
    (endTransmission r remnant t s).engine = s.engine ∧ (endTransmission r remnant t s).table = s.table ∧
    (endTransmission r remnant t s).allocator = s.allocator ∧ (endTransmission r remnant t s).stagger = s.stagger ∧
    (endTransmission r remnant t s).fan = s.fan ∧ (endTransmission r remnant t s).output = s.output ∧
    (endTransmission r remnant t s).responder = s.responder ∧ (endTransmission r remnant t s).counters = s.counters ∧
    (endTransmission r remnant t s).freeDraws = s.freeDraws ∧ (endTransmission r remnant t s).pending = s.pending ∧
    (endTransmission r remnant t s).bus.announceTimer = s.bus.announceTimer ∧
    (endTransmission r remnant t s).bus.sequence = s.bus.sequence ∧
    (endTransmission r remnant t s).bus.lastHeard = s.bus.lastHeard ∧ (endTransmission r remnant t s).bus.heard = s.bus.heard ∧
    (endTransmission r remnant t s).bus.clashTimer = s.bus.clashTimer ∧ (endTransmission r remnant t s).bus.clash = s.bus.clash ∧
    (endTransmission r remnant t s).bus.stuck = s.bus.stuck := by
  simp [endTransmission]

/-- What `announceExpires` leaves as it is. -/
@[simp] theorem announceExpires_frame (s : State) :
    (announceExpires s).startUp = s.startUp ∧ (announceExpires s).scanner = s.scanner ∧
    (announceExpires s).rotation = s.rotation ∧ (announceExpires s).reconciler = s.reconciler ∧
    (announceExpires s).engine = s.engine ∧ (announceExpires s).table = s.table ∧ (announceExpires s).allocator = s.allocator ∧
    (announceExpires s).stagger = s.stagger ∧ (announceExpires s).fan = s.fan ∧ (announceExpires s).output = s.output ∧
    (announceExpires s).responder = s.responder ∧ (announceExpires s).counters = s.counters ∧
    (announceExpires s).freeDraws = s.freeDraws ∧ (announceExpires s).pending = s.pending ∧
    (announceExpires s).bus.intentSlot = s.bus.intentSlot ∧ (announceExpires s).bus.replySlots = s.bus.replySlots ∧
    (announceExpires s).bus.remnant = s.bus.remnant ∧ (announceExpires s).bus.lastHeard = s.bus.lastHeard ∧
    (announceExpires s).bus.heard = s.bus.heard ∧ (announceExpires s).bus.clashTimer = s.bus.clashTimer ∧
    (announceExpires s).bus.clash = s.bus.clash ∧ (announceExpires s).bus.stuck = s.bus.stuck := by
  simp [announceExpires]

/-- What `clashEnds` leaves as it is; in ACTIVE it sets the two requests to 0. -/
@[simp] theorem clashEnds_frame (s : State) :
    (clashEnds s).startUp = s.startUp ∧ (clashEnds s).scanner = s.scanner ∧ (clashEnds s).reconciler = s.reconciler ∧
    (clashEnds s).table = s.table ∧ (clashEnds s).counters = s.counters ∧ (clashEnds s).freeDraws = s.freeDraws ∧
    (clashEnds s).pending = s.pending ∧ (clashEnds s).engine.regime = s.engine.regime ∧
    (clashEnds s).engine.candidate = s.engine.candidate ∧ (clashEnds s).engine.fallback = s.engine.fallback ∧
    (clashEnds s).engine.baseSpeed = s.engine.baseSpeed ∧ (clashEnds s).engine.speedTarget = s.engine.speedTarget ∧
    (clashEnds s).engine.reliefRequest = (if s.startUp.lifecycle = .active then 0 else s.engine.reliefRequest) ∧
    (clashEnds s).engine.reliefCap = s.engine.reliefCap ∧
    (clashEnds s).engine.wfcRequest = (if s.startUp.lifecycle = .active then 0 else s.engine.wfcRequest) ∧ (clashEnds s).engine.wfcCap = s.engine.wfcCap ∧
    (clashEnds s).engine.forceBypass = s.engine.forceBypass ∧ (clashEnds s).engine.decisionTimer = s.engine.decisionTimer ∧
    (clashEnds s).output.wanted = s.output.wanted ∧ (clashEnds s).output.test = s.output.test ∧
    (clashEnds s).bus.receiver = s.bus.receiver ∧ (clashEnds s).bus.transmitter = s.bus.transmitter ∧
    (clashEnds s).bus.announceSlot = s.bus.announceSlot ∧ (clashEnds s).bus.replySlots = s.bus.replySlots ∧
    (clashEnds s).bus.remnant = s.bus.remnant ∧ (clashEnds s).bus.announceTimer = s.bus.announceTimer ∧
    (clashEnds s).bus.sequence = s.bus.sequence ∧ (clashEnds s).bus.lastHeard = s.bus.lastHeard ∧
    (clashEnds s).bus.heard = s.bus.heard ∧ (clashEnds s).bus.stuck = s.bus.stuck ∧
    (clashEnds s).responder.sticky = s.responder.sticky ∧ (clashEnds s).output.bypass.outcome = s.output.bypass.outcome ∧
    (clashEnds s).output.bypass.mismatches = s.output.bypass.mismatches ∧
    (clashEnds s).output.outdoor.outcome = s.output.outdoor.outcome ∧
    (clashEnds s).output.outdoor.mismatches = s.output.outdoor.mismatches := by
  unfold clashEnds; dsimp only; split <;> simp_all

/-- A record that is due stands in the table at that address, in that state, with the point reached by one of the two clocks. -/
theorem recordDue_spec {s : State} {e : SilenceExpiry} {st : PeerState} {multiple : Nat} {r : PeerRecord}
    (h : recordDue s e st multiple = some r) :
    findRecord e.peer.toNat s.table.records = some r ∧ r.state = st ∧ secs (multiple * r.pp) ≤ max r.silence e.elapsed := by
  obtain ⟨hf, hp⟩ := Option.filter_eq_some_iff.1 h
  simpa [hf, silent] using hp

/-- No record is due where the one found is in another state, or its silence has not reached the point. -/
theorem recordDue_eq_none {s : State} {e : SilenceExpiry} {st : PeerState} {multiple : Nat}
    (h : ∀ r, findRecord e.peer.toNat s.table.records = some r →
      r.state ≠ st ∨ max r.silence e.elapsed < secs (multiple * r.pp)) :
    recordDue s e st multiple = none := by
  rw [recordDue, Option.filter_eq_none_iff]
  intro r hr
  rcases h r hr with hs | hs <;> simp [hs, silent] <;> omega

/-- A record found is one of the table, at the address asked for. -/
theorem findRecord_spec {a : Nat} {l : List PeerRecord} {r : PeerRecord} (h : findRecord a l = some r) : r ∈ l ∧ r.address = a := by
  induction l with
  | nil => simp [findRecord] at h
  | cons x xs ih =>
    simp only [findRecord] at h
    split at h
    · cases h; simp_all
    · exact ⟨List.mem_cons_of_mem _ (ih h).1, (ih h).2⟩

/-- The CRC register over two lists of bytes is the register over the second, from that over the first. -/
theorem crcFrom_append (r : Half) (a b : List Byte) : crcFrom r (a ++ b) = crcFrom (crcFrom r a) b := by
  induction a generalizing r with
  | nil => rfl
  | cons x xs ih => exact ih _

end Sys2Proof.Machine
end

