-- ==== Sys2Proof/Laws/PerInstr.lean ====
section
/-! SUPPORT. What holds of every command as syntax: the table gives its rows no bits, so no word spells one. -/

namespace Sys2Proof.Laws

/-- No word spells the command. -/
def SpelledByNoWord.Statement (i : Instr) : Prop := ∀ nbits w : Nat, decodeTableWord nbits w ≠ some i

theorem SpelledByNoWord.coldStart (addrHi addrLo : Ratio) (record : List Byte) : SpelledByNoWord.Statement (.coldStart addrHi addrLo record) := fun _ _ => nofun
theorem SpelledByNoWord.configEnd : SpelledByNoWord.Statement .configEnd := fun _ _ => nofun
theorem SpelledByNoWord.scanTimerExpiry (scanIn : Bool) : SpelledByNoWord.Statement (.scanTimerExpiry scanIn) := fun _ _ => nofun
theorem SpelledByNoWord.scanOutPulseEnd : SpelledByNoWord.Statement .scanOutPulseEnd := fun _ _ => nofun
theorem SpelledByNoWord.scanInRisingEdge : SpelledByNoWord.Statement .scanInRisingEdge := fun _ _ => nofun
theorem SpelledByNoWord.conversionComplete (code : Code) : SpelledByNoWord.Statement (.conversionComplete code) := fun _ _ => nofun
theorem SpelledByNoWord.rotInRisingEdge : SpelledByNoWord.Statement .rotInRisingEdge := fun _ _ => nofun
theorem SpelledByNoWord.gateWindowExpiry : SpelledByNoWord.Statement .gateWindowExpiry := fun _ _ => nofun
theorem SpelledByNoWord.decision (order : DecisionOrder) : SpelledByNoWord.Statement (.decision order) := fun _ _ => nofun
theorem SpelledByNoWord.forceBypassTimerExpiry : SpelledByNoWord.Statement .forceBypassTimerExpiry := fun _ _ => nofun
theorem SpelledByNoWord.holdTimerExpiry : SpelledByNoWord.Statement .holdTimerExpiry := fun _ _ => nofun
theorem SpelledByNoWord.silenceCoasting (expiry : SilenceExpiry) (order : ReportOrder) :
    SpelledByNoWord.Statement (.silenceCoasting expiry order) := fun _ _ => nofun
theorem SpelledByNoWord.silenceLost (expiry : SilenceExpiry) : SpelledByNoWord.Statement (.silenceLost expiry) := fun _ _ => nofun
theorem SpelledByNoWord.silenceFreed (expiry : SilenceExpiry) (order : ReportOrder) :
    SpelledByNoWord.Statement (.silenceFreed expiry order) := fun _ _ => nofun
theorem SpelledByNoWord.announce (frame : Frame) (order : ReportOrder) : SpelledByNoWord.Statement (.announce frame order) := fun _ _ => nofun
theorem SpelledByNoWord.intent (frame : Frame) : SpelledByNoWord.Statement (.intent frame) := fun _ _ => nofun
theorem SpelledByNoWord.replyReceived (frame : Frame) : SpelledByNoWord.Statement (.replyReceived frame) := fun _ _ => nofun
theorem SpelledByNoWord.rdst (source : Addr) (argument : Half) : SpelledByNoWord.Statement (.rdst source argument) := fun _ _ => nofun
theorem SpelledByNoWord.rdct (source : Addr) (argument : Half) : SpelledByNoWord.Statement (.rdct source argument) := fun _ _ => nofun
theorem SpelledByNoWord.rdpr (source : Addr) (argument : Half) : SpelledByNoWord.Statement (.rdpr source argument) := fun _ _ => nofun
theorem SpelledByNoWord.clrc (source : Addr) (argument : Half) : SpelledByNoWord.Statement (.clrc source argument) := fun _ _ => nofun
theorem SpelledByNoWord.rstw (source : Addr) (argument : Half) : SpelledByNoWord.Statement (.rstw source argument) := fun _ _ => nofun
theorem SpelledByNoWord.fbyp (source : Addr) (argument : Half) : SpelledByNoWord.Statement (.fbyp source argument) := fun _ _ => nofun
theorem SpelledByNoWord.frel (source : Addr) (argument : Half) : SpelledByNoWord.Statement (.frel source argument) := fun _ _ => nofun
theorem SpelledByNoWord.clst (source : Addr) (argument : Half) : SpelledByNoWord.Statement (.clst source argument) := fun _ _ => nofun
theorem SpelledByNoWord.unknown (source : Addr) (kind : Byte) (argument : Half) : SpelledByNoWord.Statement (.unknown source kind argument) := fun _ _ => nofun
theorem SpelledByNoWord.lineIdle : SpelledByNoWord.Statement .lineIdle := fun _ _ => nofun
theorem SpelledByNoWord.contentionLost (rival : Byte) : SpelledByNoWord.Statement (.contentionLost rival) := fun _ _ => nofun
theorem SpelledByNoWord.frameSentWhole : SpelledByNoWord.Statement .frameSentWhole := fun _ _ => nofun
theorem SpelledByNoWord.frameAbandoned : SpelledByNoWord.Statement .frameAbandoned := fun _ _ => nofun
theorem SpelledByNoWord.busStuck : SpelledByNoWord.Statement .busStuck := fun _ _ => nofun
theorem SpelledByNoWord.announcementTimerExpiry : SpelledByNoWord.Statement .announcementTimerExpiry := fun _ _ => nofun
theorem SpelledByNoWord.lastHeardTimerExpiry : SpelledByNoWord.Statement .lastHeardTimerExpiry := fun _ _ => nofun
theorem SpelledByNoWord.clashTimerExpiry : SpelledByNoWord.Statement .clashTimerExpiry := fun _ _ => nofun
theorem SpelledByNoWord.listenTimerExpiry : SpelledByNoWord.Statement .listenTimerExpiry := fun _ _ => nofun
theorem SpelledByNoWord.intentWindowExpiry : SpelledByNoWord.Statement .intentWindowExpiry := fun _ _ => nofun
theorem SpelledByNoWord.slotTimerExpiry : SpelledByNoWord.Statement .slotTimerExpiry := fun _ _ => nofun
theorem SpelledByNoWord.backoffTimerExpiry : SpelledByNoWord.Statement .backoffTimerExpiry := fun _ _ => nofun
theorem SpelledByNoWord.offDelayTimerExpiry : SpelledByNoWord.Statement .offDelayTimerExpiry := fun _ _ => nofun
theorem SpelledByNoWord.idleTimerExpiry : SpelledByNoWord.Statement .idleTimerExpiry := fun _ _ => nofun
theorem SpelledByNoWord.purgeTimerExpiry : SpelledByNoWord.Statement .purgeTimerExpiry := fun _ _ => nofun
theorem SpelledByNoWord.settleTimerExpiry (damper : Damper) : SpelledByNoWord.Statement (.settleTimerExpiry damper) := fun _ _ => nofun
theorem SpelledByNoWord.polarityPhaseEnd : SpelledByNoWord.Statement .polarityPhaseEnd := fun _ _ => nofun
theorem SpelledByNoWord.warmRestart (sentWhole : Bool) : SpelledByNoWord.Statement (.warmRestart sentWhole) := fun _ _ => nofun
theorem SpelledByNoWord.queryForOtherStation (frame : Frame) : SpelledByNoWord.Statement (.queryForOtherStation frame) := fun _ _ => nofun
theorem SpelledByNoWord.framingError : SpelledByNoWord.Statement .framingError := fun _ _ => nofun
theorem SpelledByNoWord.badLength : SpelledByNoWord.Statement .badLength := fun _ _ => nofun
theorem SpelledByNoWord.startBit : SpelledByNoWord.Statement .startBit := fun _ _ => nofun

end Sys2Proof.Laws
end

