-- ==== Sys2Proof/Tests/Slice0.lean ====
section
/-! SUPPORT. Tests: ill-formed commands, the worked cases of the spec, single steps, and for every statement with premises a state and operands that
meet them. Expected values are the spec's own, or worked out by hand from its rules. -/

namespace Sys2Proof.Tests

open Sys2Proof Sys2Proof.Machine

-- The kernel checks these theorems one at a time: many at once would each hold a thread of their own.
set_option Elab.async false

/-! ### Well-formedness: one ill-formed term for each check -/

theorem test_wf_refuses_a_supply_that_is_down : (Instr.coldStart ⟨1, 0⟩ ⟨1, 2⟩ (List.replicate 84 0)).wf = false := by decide
theorem test_wf_refuses_a_pin_above_the_supply : (Instr.coldStart ⟨1, 2⟩ ⟨3, 2⟩ (List.replicate 84 0)).wf = false := by decide
theorem test_wf_refuses_a_short_record : (Instr.coldStart ⟨1, 2⟩ ⟨1, 2⟩ (List.replicate 83 0)).wf = false := by decide
theorem test_wf_refuses_a_frame_that_is_cut : (Instr.replyReceived [0xC1, 0x40, 3, 0, 0, 1, 2]).wf = false := by decide
theorem test_wf_refuses_an_overlong_frame : (Instr.replyReceived ([0xC1, 0x40, 49, 0, 0] ++ List.replicate 49 0)).wf = false := by
  decide
theorem test_wf_refuses_an_announce_of_another_kind : (Instr.announce [0xC1, 0x40, 0, 0, 0] .reconcilerFirst).wf = false := by decide
theorem test_wf_refuses_an_intent_of_another_kind : (Instr.intent [0xC1, 0x40, 0, 0, 0]).wf = false := by decide
theorem test_wf_refuses_a_reply_of_another_kind : (Instr.replyReceived [0x01, 0x10, 0, 0, 0]).wf = false := by decide
theorem test_wf_refuses_a_query_of_another_kind : (Instr.queryForOtherStation [0x01, 0x10, 0, 0, 0]).wf = false := by decide
theorem test_wf_refuses_a_known_kind_as_unknown : (Instr.unknown 1 8 0).wf = false := by decide
theorem test_wf_accepts_a_frame_built : (Instr.replyReceived (buildFrame .reply 5 [3, 1, 0])).wf = true := by decide +kernel

/-! ### Worked cases of the spec -/

/-- Section 2.2, Worked cases: scaling. -/
theorem test_scaling_cases :
    sampleOf .outT 2048 = some 100 ∧ sampleOf .outT 1000 = some (-220) ∧ sampleOf .retT 400 = some (-400) ∧
    sampleOf .retT 3700 = some 600 ∧ sampleOf .retW 2048 = some 1500 ∧ sampleOf .coolDem 411 = some 0 ∧
    sampleOf .coolDem 414 = some 1 ∧ sampleOf .heatDem 3000 = some 790 ∧ sampleOf .exhT 327 = none ∧
    sampleOf .exhT 3769 = none := by decide

/-- Section 2.3, Worked cases: enthalpy. -/
theorem test_enthalpy_cases :
    enthalpy 285 1450 = 6570 ∧ enthalpy 240 900 = 4705 ∧ enthalpy 150 700 = 3279 ∧ enthalpy 25 0 = 252 ∧
    enthalpy (-25) 0 = -252 ∧ enthalpy (-1) 0 = -10 ∧ enthalpy (-100) 200 = -510 ∧ enthalpy 287 1450 = 6591 := by decide

/-- Section 2.4, Worked cases: height correction. -/
theorem test_height_correction_cases :
    correctedTemp (-65) 190 40 300 = 290 ∧ correctedTemp (-65) 40 190 300 = 310 ∧ correctedTemp (-50) 110 100 212 = 211 ∧
    correctedTemp (-50) 100 110 212 = 213 ∧ correctedTemp (-24) 120 100 212 = 212 ∧
    correctedTemp (-100) 0 600 575 = 600 ∧ correctedTemp (-100) 600 0 (-370) = -400 := by decide

/-- Section 2.5, Worked cases: median. -/
theorem test_median_cases :
    lowerMedian [284, 290, 287, 281, 301] = some 287 ∧ lowerMedian [281, 287, 290, 301] = some 287 ∧
    lowerMedian [290, 287] = some 287 ∧ lowerMedian [1450, 1380, 1380, 1510] = some 1380 ∧
    lowerMedian [304] = some 304 := by decide

/-- Section 2.6, Worked cases: WFC budget. -/
theorem test_wfc_budget_cases :
    wfcBudget 8000 2500 4000 (some 2500) = 8000 ∧ wfcBudget 8000 2500 4000 (some 2501) = 7994 ∧
    wfcBudget 8000 2500 4000 (some 3100) = 4800 ∧ wfcBudget 8000 2500 4000 (some 3279) = 3845 ∧
    wfcBudget 8000 2500 4000 (some 3999) = 5 ∧ wfcBudget 8000 2500 4000 (some 4000) = 0 ∧
    wfcBudget 8000 2500 4000 none = 0 := by decide

/-- Section 2.7, Worked cases: economizer. -/
theorem test_economizer_cases :
    wantedFraction 200 600 = 680 ∧ reliefRequestOf 200 12000 680 = 5760 ∧ reliefCapOf 200 12000 = 9600 ∧
    grantedFraction 680 200 12000 3334 = 477 ∧ grantedFraction 680 200 12000 2500 = 408 ∧
    grantedFraction 680 200 12000 5760 = 680 ∧ wantedFraction 200 333 = 466 ∧ grantedFraction 466 200 12000 3000 = 450 ∧
    minUsefulShare 25 5760 = 1440 := by decide

/-- Sections 2.8 and 2.9, worked cases. -/
theorem test_valve_and_speed_cases :
    wfcRequestOf 2500 333 = 832 ∧ valveCommand 2500 832 = 332 ∧ wfcRequestOf 999 1 = 0 ∧ valveCommand 0 7 = 0 ∧
    heatingTarget 100 60 = 100 ∧ heatingTarget 100 800 = 800 ∧ coolingTarget 100 800 333 = 474 ∧
    coolingTarget 100 800 (-55) = 100 ∧ coolingTarget 100 800 1565 = 1000 := by decide

/-- A participant of a worked case, without a share. -/
def asks (a r : Nat) : Participant := { address := a, request := r, share := none }

/-- A participant of a worked case, with its share. -/
def gets (a r x : Nat) : Participant := { address := a, request := r, share := some x }

/-- Section 6.4, a riser group over its budget; then a lost member of the plant group at both budgets. -/
theorem test_division_cases :
    divide 12000 [asks 3 2000, asks 7 5760, asks 12 6000, asks 20 4000] =
      [gets 3 2000 2000, gets 7 5760 3334, gets 12 6000 3333, gets 20 4000 3333] ∧
    divide 4800 [asks 3 1200, asks 9 1500, asks 14 2000, asks 21 600] =
      [gets 3 1200 1200, gets 9 1500 1500, gets 14 2000 1500, gets 21 600 600] ∧
    divide 3200 [asks 3 1200, asks 9 1500, asks 14 2000, asks 21 600] =
      [gets 3 1200 867, gets 9 1500 867, gets 14 2000 866, gets 21 600 600] := by decide

/-- R157: the check value of the digits 1 to 9. -/
theorem test_crc_check_value : crc16 [0x31, 0x32, 0x33, 0x34, 0x35, 0x36, 0x37, 0x38, 0x39] = 0x29B1 := by decide +kernel

/-- R175: ratios 0.40 and 0.90 give address 31, and a ratio of 0.25 is band 2. -/
theorem test_strap_cases :
    strapAddress ⟨40, 100⟩ ⟨90, 100⟩ = 31 ∧ strapBand ⟨25, 100⟩ = 2 ∧ strapBand ⟨1, 1⟩ = 7 ∧ strapBand ⟨0, 5⟩ = 0 := by decide

/-- R176: the default column as bytes 0 to 81 of a record, high bytes first, in three parts. -/
def recordParts : List Byte × List Byte × List Byte :=
  ([0xA1, 0, 0, 0, 0, 10, 0, 30, 6, 0, 3, 232, 10, 0, 1, 2, 3, 4, 5, 6, 7, 8, 9, 0, 1, 2, 3, 4],
   [5, 6, 7, 8, 9, 0, 200, 39, 16, 0, 0, 0, 0, 0, 0, 9, 196, 15, 160, 30, 10, 0, 200, 1, 44, 0, 100, 3],
   [32, 0, 50, 25, 0, 100, 30, 20, 0, 150, 255, 246, 20, 128, 0, 120, 5, 2, 191, 0, 200, 40, 10, 20, 1, 90])

/-- The record of the default column, with its CRC. -/
def recordT : List Byte := recordParts.1 ++ recordParts.2.1 ++ recordParts.2.2 ++ [0x2D, 0x9E]

theorem test_crc_of_the_default_record : crc16 (recordT.take 82) = 0x2D9E := by
  rw [show recordT.take 82 = recordParts.1 ++ (recordParts.2.1 ++ recordParts.2.2) by decide, crc16, crcFrom_append, crcFrom_append,
    show crcFrom 0xFFFF#16 recordParts.1 = 40549#16 by decide +kernel, show crcFrom 40549#16 recordParts.2.1 = 3832#16 by decide +kernel]
  decide +kernel

/-- R176: the record of the defaults is accepted and gives the defaults. -/
theorem test_default_record_gives_the_defaults : recordAccepted recordT = true ∧ loadSettings recordT = defaultSettings := by
  have h : recordAccepted recordT = true := by
    rw [recordAccepted, recordIntact, test_crc_of_the_default_record]
    decide +kernel
  rw [loadSettings, if_pos h]
  exact ⟨h, by decide +kernel⟩

/-- R178: the same list with channel 0 twice is not accepted. -/
theorem test_repeated_channel_is_not_accepted : recordAccepted (recordT.set 14 0) = false := by
  rw [recordAccepted, show noRepeats (settingsOf (recordT.set 14 0)).scanList = false by decide +kernel, Bool.and_false]

/-- R47: the two averages of the rule's example. -/
theorem test_average_cases :
    (Window.mk .valid (List.replicate 6 (-15) ++ List.replicate 6 (-16)) (some (-16)) 0).average = some (-16) ∧
    (Window.mk .valid (List.replicate 8 241 ++ List.replicate 4 242) (some 242) 0).average = some 241 := by decide

/-! ### States of the tests -/

/-- A configuration: a member of riser group 1 and plant group 1, the owner of the relief fan, at height 100. -/
def cfgT : Settings :=
  { defaultSettings with
    riserGroup := 1, plantGroup := 1, height := 100, fanOwner := true, brel := 12000, lc := 2500, cnom := 8000 }

/-- What a peer without requests says. -/
def claims (sequence : Nat) : Announcement where
  sequence := sequence
  flag := .active
  mode := .bypass
  riserGroup := 1
  plantGroup := 1
  height := 100
  period := 10
  observation := some { t := 250, w := 1000 }
  relief := { request := 0, cap := 5000, inUse := 0 }
  wfc := { request := 0, cap := 2500, inUse := 0 }
  faults := 0

/-- A record of a peer, in a state. -/
def peer (a : Nat) (st : PeerState) : PeerRecord where
  address := a
  sameRiser := true
  samePlant := true
  state := st
  silence := 0
  gapCount := 0
  said := claims 8

/-- A record of an outdoor-only peer. -/
def outsider (a : Nat) : PeerRecord := { peer a .live with sameRiser := false, samePlant := false }

/-- A station at address 5, or 0 in SERVICE, in a lifecycle state: one LIVE peer at address 7, its receiver COLLECTING, the reference INVALID. -/
def station (l : Lifecycle) : State :=
  { State.reset with
    startUp :=
      { lifecycle := l, address := if l = .service then 0 else 5, settings := cfgT, configDefault := false
        configTimer := if l = .config then some 50 else none, listenTimer := if l = .listen then some 30000 else none
        ownCount := 0, restartPending := false }
    scanner := { startScanner cfgT with scanTimer := some 1000 }
    engine := { startEngine cfgT with decisionTimer := if l.inService = true then some 30000 else none }
    table := { records := [peer 7 .live], lone := false }
    allocator := startAllocator cfgT
    output := startOutput cfgT.fmin
    bus :=
      { startBus .collecting with
        announceTimer := if l.inService = true then some 10000 else none, lastHeard := some 50000, heard := true }
    responder := { sticky := noFaults, alarm := true } }

/-- The ACTIVE station. -/
def act : State := station .active

/-- A VALID window whose average is `v`. -/
def valid (v : Int) : Window :=
  { state := .valid, samples := List.replicate 12 v, lastAccepted := some v, substituteRun := 0 }

/-- The windows of a station whose every quantity is VALID, with demands. -/
def readings (heat cool exhaust : Int) : Windows where
  outT := valid 150
  outW := valid 700
  retT := valid 240
  retW := valid 900
  exhT := valid exhaust
  heatDem := valid heat
  coolDem := valid cool
  bypFb := valid 1000
  oaFb := valid 200

/-- The reference of the first worked sequence of chapter 1: T 150, W 700, H 3279. -/
def cool150 : Reference := .fresh { t := 150, w := 700, h := 3279 }

/-- A station with every quantity VALID, a FRESH reference and demands. -/
def deciding (heat cool exhaust : Int) (applied : Mode) : State :=
  { act with
    scanner := { act.scanner with windows := readings heat cool exhaust }
    reconciler := { startReconciler with reference := cool150, count := 1 }
    engine := { act.engine with applied := applied, speedTarget := 400 } }

/-- A station whose dwell is over with ECONOMIZE applied, with a relief request, a relief share that is its grant, and mismatches of its outdoor
damper, whose feedback of 200 is far from its command 1000. -/
def economizing (heat cool : Int) (request share mismatches : Nat) : State :=
  { deciding heat cool 0 .economize with
    engine := { (deciding heat cool 0 .economize).engine with dwell := 6, reliefRequest := request, reliefCap := 8000 }
    allocator := { act.allocator with relief := { value := 12000, participants := [], ownShare := share, grant := share } }
    output :=
      { act.output with outdoor := { command := 1000, outcome := .normal, mismatches := mismatches, settle := none } } }

/-- The command ran, and a property holds of the state it leaves. -/
def after (c : Instr) (s : State) (p : State → Bool) : Bool :=
  match exec c s with
  | .next t => p t
  | .fault _ | .refused _ => false

/-- A frame of an ANNOUNCE from an address. -/
def announceFrom (a sequence : Nat) : Frame := buildFrame .announce a (announceBody (claims sequence))

/-! ### Single steps -/

/-- R174, R175: the straps are read at COLD_START, and a memory that returns no byte gives no accepted record. -/
theorem test_cold_start_reads_the_straps :
    after (.coldStart ⟨40, 100⟩ ⟨90, 100⟩ []) State.reset (fun t =>
      decide (t.startUp.address = 31 ∧ t.startUp.lifecycle = .config ∧ t.startUp.configDefault = true ∧
        t.startUp.settings = defaultSettings)) = true := by decide +kernel

/-- R179: address 0 goes to SERVICE. -/
theorem test_config_end_at_address_0_serves :
    after .configEnd { station .config with startUp := { (station .config).startUp with address := 0 } } (fun t =>
      decide (t.startUp.lifecycle = .service ∧ t.responder.alarm = true)) = true := by decide +kernel

/-- R45: a strobe is dropped while a scan is in flight. -/
theorem test_strobe_in_flight_is_dropped :
    after (.scanTimerExpiry false) { act with scanner := { act.scanner with scan := some ⟨3, 1⟩ } } (fun t =>
      decide (t.counters.scanOverruns = 1 ∧ t.scanner.scan = some ⟨3, 1⟩)) = true := by decide +kernel

/-- R46: the code of the first channel is an OUT_T sample. -/
theorem test_conversion_enters_the_window :
    after (.conversionComplete 2048) { act with scanner := { act.scanner with scan := some ⟨0, 2⟩ } } (fun t =>
      decide (t.scanner.windows.outT.samples = [100] ∧ t.scanner.scan = some ⟨1, 2⟩)) = true := by decide +kernel

/-- R55: the speed is pulses × 60 / (pulses per revolution × window). -/
theorem test_gate_window_measures :
    after .gateWindowExpiry
      { act with rotation := { gate := some 0, pulses := 7, settling := false, zeroRun := 1, rpm := 0 } } (fun t =>
      decide (t.rotation.rpm = 21 ∧ t.rotation.zeroRun = 0 ∧ t.rotation.pulses = 0)) = true := by decide +kernel

/-- R7: with a difference of 90 and a heating demand the candidate is RECOVER. -/
theorem test_decision_in_heating_recovers :
    after (.decision .stagesFirst) (deciding 800 0 100 .bypass) (fun t =>
      decide (t.engine.regime = .heating ∧ t.engine.candidate = .recover ∧ t.engine.baseSpeed = 800)) = true := by
  decide +kernel

/-- R8, R9: cool outdoor air and a cooling demand of 600 make the candidate ECONOMIZE, with a relief request of floor(480 × 10000 / 1000). -/
theorem test_decision_in_cooling_economizes :
    after (.decision .stagesFirst) (deciding 0 600 100 .bypass) (fun t =>
      decide (t.engine.candidate = .economize ∧ t.engine.reliefRequest = 4800)) = true := by decide +kernel

/-- R16: at EXH_T −10 the speed target 400 becomes 300 and FROST is applied. -/
theorem test_frost_cuts_the_speed :
    after (.decision .stagesFirst)
      { deciding 800 0 (-10) .recover with
        output := { act.output with wheel := .running, wheelRun := true, wheelSpd := 400 } } (fun t =>
      decide (t.engine.applied = .frost ∧ t.engine.speedTarget = 300 ∧ t.output.wheelSpd = 300)) = true := by
  decide +kernel

/-- R79: the accepted ANNOUNCE is stored; 8 to 10 is a gap (R78). -/
theorem test_announce_with_a_gap :
    after (.announce (announceFrom 7 10) .reconcilerFirst) act (fun t =>
      decide (t.counters.seqGaps = 1 ∧ t.table.records = [{ peer 7 .live with gapCount := 1, said := claims 10 }] ∧
        t.reconciler.reference = .fresh { t := 250, w := 1000, h := 5063 })) = true := by decide +kernel

/-- R88: an accepted ANNOUNCE taken first restarts the silence timer, and the expiry that came with it does not happen. -/
theorem test_announce_first_keeps_the_record_live :
    after (.announce (announceFrom 7 9) .reconcilerFirst) act (fun t =>
      after (.silenceCoasting ⟨7, 0⟩ .reconcilerFirst) t fun u => decide (u = t)) = true ∧
    after (.silenceCoasting ⟨7, 20000⟩ .reconcilerFirst) act (fun t =>
      decide (t.table.records.map PeerRecord.state = [.coasting])) = true := by
  decide +kernel

/-- R167: the own address heard is a clash. -/
theorem test_own_address_is_a_clash :
    after (.announce (announceFrom 5 1) .reconcilerFirst) act (fun t =>
      decide (t.bus.clash = true ∧ t.bus.clashTimer = some 100000 ∧ t.responder.sticky.addressClash = true)) = true := by
  decide +kernel

/-- R168, R171: a frame taken first restarts a timer that has run out, and the expiry that came with it does not happen. -/
theorem test_frame_first_keeps_clash_and_lifecycle :
    after (.announce (announceFrom 5 1) .reconcilerFirst)
      { act with bus := { act.bus with clash := true, clashTimer := some 0 } } (fun t =>
      after .clashTimerExpiry t fun u => decide (u = t ∧ t.bus.clash = true)) = true ∧
    after (.announce (announceFrom 7 8) .reconcilerFirst) { act with bus := { act.bus with lastHeard := some 0 } } (fun t =>
      after .lastHeardTimerExpiry t fun u => decide (u = t ∧ t.startUp.lifecycle = .active)) = true := by
  decide +kernel

/-- R110: a clash that ends without a decision in between leaves the station without a request and without a share. -/
theorem test_clash_end_has_no_request :
    after .clashTimerExpiry
      { act with
        engine := { act.engine with reliefRequest := 4800 }
        allocator := { act.allocator with relief := { act.allocator.relief with value := 12000 } }
        bus := { act.bus with clash := true, clashTimer := some 0 } } (fun t =>
      decide (t.bus.clash = false ∧ t.engine.reliefRequest = 0 ∧ t.allocator.relief.ownShare = 0)) = true := by
  decide +kernel

/-- R158: a wrong CRC is counted. -/
theorem test_wrong_crc_is_counted :
    after (.replyReceived [0xC7, 0x40, 3, 0, 0, 1, 2, 0]) act (fun t =>
      decide (t.counters.crcErrors = 1 ∧ t.bus.receiver = .waitIdle)) = true := by decide +kernel

/-- R186, R187: CLRC clears the counters and is answered DONE. -/
theorem test_clrc_clears_and_answers :
    after (.clrc 9 0) { act with counters := { zeroCounters with crcErrors := 4 } } (fun t =>
      decide (t.counters = zeroCounters ∧ t.bus.replySlots = [buildFrame .reply 5 [9, 4, 0]])) = true := by decide +kernel

/-- R122: two lower keys give slot 2, at 2 × 5 s. -/
theorem test_two_lower_keys_give_slot_2 :
    after .intentWindowExpiry
      { act with
        stagger :=
          { idleStagger with
            pending := some ⟨.wheelStart, ⟨100, 5⟩, .window, false⟩, windowTimer := some 0
            intents := [⟨40, 9⟩, ⟨100, 3⟩, ⟨100, 6⟩] } } (fun t =>
      decide (t.stagger.slotTimer = some 10000 ∧ t.stagger.intents = [])) = true := by decide +kernel

/-- R163: 0x45 loses against 0x07, and not against 0x87. -/
theorem test_contention_bytes : losesContention 0x45 0x07 = true ∧ losesContention 0x45 0x87 = false := by decide

/-- A step on an empty queue is a millisecond (log 3). -/
theorem test_empty_queue_ticks :
    (match step act with
     | .next t => decide (t.bus.announceTimer = some 9999)
     | .fault _ | .refused _ => false) = true := by decide +kernel

/-- A step runs the front of the queue. -/
theorem test_step_takes_the_front :
    step { act with pending := [.lineIdle, .busStuck] } = exec .lineIdle { act with pending := [.busStuck] } := rfl

/-! ### States and operands that meet the premises of the statements -/

/-- A queue with a command, and the empty one. -/
theorem witness_StepRunsTheFrontCommand :
    act.pending = [] ∧ ({ act with pending := [.lineIdle] } : State).pending = [.lineIdle] := by
  decide +kernel

/-- A command that is no COLD_START completes. -/
theorem witness_ConfigurationSettledUntilColdStart :
    (∀ hi lo record, Instr.lineIdle ≠ .coldStart hi lo record) ∧ ∃ t, exec .lineIdle act = .next t := by
  exact ⟨nofun, _, rfl⟩

/-- A well-formed command of the kind the statement is about, on a station with counters at both ends of their range. -/
theorem witness_CountersAndStickyFlagsKept :
    ∃ s t : State, s.counters.crcErrors = 65535 ∧ countersInRange s ∧ Instr.framingError.wf = true ∧ exec .framingError s = .next t ∧
    (∀ hi lo record, Instr.framingError ≠ .coldStart hi lo record) ∧ (∀ a b, Instr.framingError ≠ .clrc a b) ∧
    (∀ f, Instr.framingError ≠ .queryForOtherStation f) := by
  exact ⟨{ act with counters := { zeroCounters with crcErrors := 65535 } }, _, rfl, by decide, rfl, rfl, nofun, nofun, nofun⟩

/-- The ends of every class of codes. -/
theorem witness_ScalingFollowsTheBands :
    ∀ n ∈ [0, 327, 328, 409, 410, 3686, 3687, 3768, 3769, 4095], (BitVec.ofNat 12 n).toNat = n := by
  decide

/-- The ends of the lapse. -/
theorem witness_EnthalpyAndHeightCorrectionRound :
    (-100 : Int) ≤ -100 ∧ (-100 : Int) ≤ 0 ∧ (-100 : Int) ≤ 0 ∧ (0 : Int) ≤ 0 := by
  decide

/-- A list with a median. -/
theorem witness_MedianIsTheLowerMiddleValue :
    ([5, 5, 4] : List Int) ≠ [] ∧ lowerMedian [5, 5, 4] = some 5 := by
  decide

/-- The narrowest line, and the first and last Ho on it. -/
theorem witness_WfcBudgetDerates :
    (0 : Int) + 100 ≤ 100 ∧ (0 : Int) < 1 ∧ (1 : Int) < 100 ∧ (0 : Int) < 99 ∧ (99 : Int) < 100 := by
  decide

/-- Both ends of every range. -/
theorem witness_EconomizerQuantitiesKeepTheirBounds :
    50 ≤ 50 ∧ 50 ≤ 500 ∧ 500 ≤ 500 ∧ 60000 ≤ 60000 ∧ 500 ≤ 60000 ∧ 0 ≤ 1000 ∧ 1000 ≤ 1000 ∧ reliefCapOf 500 500 = 250 ∧
    reliefCapOf 50 60000 = 57000 := by
  decide

/-- Values at the ends of their ranges. -/
theorem witness_ValveAndSpeedTargetsKeepTheirBounds :
    0 < 1 ∧ 1000 ≤ 1000 ∧ 100 ≤ 100 ∧ (0 : Int) ≤ 100 ∧ (100 : Int) ≤ (100 : Nat) ∧ valveCommand 1 1 = 1000 := by
  decide

/-- Lists without shares, at the budget and above it. -/
theorem witness_DivisionStaysWithinTheBudget :
    (∀ p ∈ [asks 1 5, asks 2 5], p.share = none) ∧ sumRequests [asks 1 5, asks 2 5] ≤ 10 ∧ 9 < sumRequests [asks 1 5, asks 2 5] := by
  decide

/-- A division that leaves two participants short, the first with one unit more. -/
theorem witness_DivisionIsMaxMinFair :
    (∀ p ∈ [asks 1 5, asks 2 5, asks 3 1], p.share = none) ∧
    divide 8 [asks 1 5, asks 2 5, asks 3 1] = [gets 1 5 4, gets 2 5 3, gets 3 1 1] := by
  decide

/-- A frame of every kind at the highest address, and an announcement that fits. -/
theorem witness_BuiltFramesAreValidAndReadBack :
    lengthFits .announce 24 = true ∧ lengthFits .intent 4 = true ∧ lengthFits .query 4 = true ∧ lengthFits .reply 3 = true ∧
    lengthFits .reply 48 = true ∧ 63 < 64 ∧ (claims 255).fits = true := by
  decide

/-- A contending station against a lower and an equal byte. -/
theorem witness_ContentionIsLostToALowerByte :
    ∃ x, ({ act with bus := { act.bus with transmitter := .contending, onAir := some ⟨.reply, [0xC5], true⟩ } } : State).bus.onAir = some x ∧
    (0xC4 : Byte).toNat < ((x.frame[0]?).getD 0).toNat ∧ ((x.frame[0]?).getD 0).toNat ≤ (0xC5 : Byte).toNat ∧
    act.bus.transmitter ≠ .contending := by
  exact ⟨_, rfl, by decide, by decide, by decide⟩

/-- Ratios at both ends of a band, and the ratio 1; a record that is accepted, and one that is not. -/
theorem witness_LoadedConfigurationIsInRange :
    (⟨1, 4⟩ : Ratio).wf = true ∧ 2 * 4 ≤ 8 * 1 ∧ 8 * 1 < (2 + 1) * 4 ∧ (⟨1, 1⟩ : Ratio).wf = true ∧ 7 * 1 ≤ 8 * 1 ∧ (7 = 7 ∧ 1 = 1) ∧
    recordAccepted recordT = true ∧ recordAccepted [] = false := by
  exact ⟨by decide, by decide, by decide, by decide, by decide, by decide, test_default_record_gives_the_defaults.1, by decide⟩

/-- The ACTIVE station has the properties, and a step of it goes on. -/
theorem witness_AlarmFollowsTheFaults :
    (alarmFollows act) ∧ ∃ t, step act = .next t := by
  exact ⟨by decide +kernel, _, rfl⟩

/-- The ACTIVE station has the properties, and a step of it goes on. -/
theorem witness_CountersAndWindowsStaySound :
    (countersInRange act ∧ windowsSound act) ∧ ∃ t, step act = .next t := by
  exact ⟨by decide +kernel, _, rfl⟩

/-- The ACTIVE station has the properties, and a step of it goes on. -/
theorem witness_TableAndIntentListStayOrdered :
    (tableSound act ∧ intentsSound act) ∧ ∃ t, step act = .next t := by
  exact ⟨by decide +kernel, _, rfl⟩

/-- The ACTIVE station has the properties, and a step of it goes on. -/
theorem witness_CommandsFollowModeAndGrants :
    (commandsFollow act ∧ act.startUp.lifecycle.inService = true) ∧ ∃ t, step act = .next t := by
  exact ⟨by decide +kernel, _, rfl⟩

/-- The ACTIVE station has the properties, and a step of it goes on. -/
theorem witness_WheelAndSafeStateHold :
    (wheelSound act ∧ safeHeld act ∧ serviceTimers act) ∧ ∃ t, step act = .next t := by
  exact ⟨by decide +kernel, _, rfl⟩

/-- The ACTIVE station has the properties, and a step of it goes on. -/
theorem witness_FanFollowsItsCondition :
    (tableSound act ∧ fanSound act) ∧ ∃ t, step act = .next t := by
  exact ⟨by decide +kernel, _, rfl⟩

/-- The ACTIVE station has the properties, and a step of it goes on. -/
theorem witness_TransmitSlotsServeAnIdleLine :
    (slotsSound act ∧ serviceTimers act ∧ slotsAllowed act ∧ idleLineServed act) ∧ ∃ t, step act = .next t := by
  exact ⟨by decide +kernel, _, rfl⟩

/-- The ACTIVE station has the properties, and a step of it goes on. -/
theorem witness_ReferenceStaysConsistent :
    (tableSound act ∧ referenceSound act) ∧ ∃ t, step act = .next t := by
  exact ⟨⟨by decide +kernel, ⟨rfl, rfl⟩, by decide, by decide⟩, _, rfl⟩

/-- The ACTIVE station has the properties, and a step of it goes on. -/
theorem witness_ParametersSamplesAndSpeedsStayInRange :
    (act.cfg.inRange = true ∧ samplesInSpan act ∧ speedsInRange act) ∧ ∃ t, step act = .next t := by
  exact ⟨by decide +kernel, _, rfl⟩

/-- An ACTIVE station in ECONOMIZE with the least grant that holds it, and a step of it. -/
theorem witness_GrantsStayWithinSharesAndHoldTheEconomizer :
    ∃ s t : State, s.engine.applied = .economize ∧ grantsSound s ∧ economizeHeld s ∧ step s = .next t := by
  exact ⟨{ act with
      engine := { act.engine with applied := .economize, reliefRequest := 4000 }
      allocator := { act.allocator with relief := { value := 12000, participants := [], ownShare := 1000, grant := 1000 } } },
    _, rfl, fun b _ => by cases b <;> decide +kernel, by decide +kernel, rfl⟩

/-- The allocations, caps and budgets of the ACTIVE station are the present ones; own requests and requests of a member, 0 and not. -/
theorem witness_AllocationsFollowEveryTrigger :
    tableSound act ∧ capsFollow act ∧ allocationsCurrent act ∧ budgetsFollow act ∧ (∃ t, step act = .next t) ∧
    participantsOf .relief act = [] ∧
    participantsOf .relief { act with
      engine := { act.engine with reliefRequest := 4800, reliefCap := 8000 }
      table := { act.table with records := [
        { peer 3 .live with said := { claims 8 with relief := { request := 900, cap := 700, inUse := 0 } } },
        { peer 4 .live with said := { claims 8 with flag := .joining, relief := { request := 900, cap := 700, inUse := 0 } } },
        { peer 7 .lost with said := { claims 8 with relief := { request := 100, cap := 5000, inUse := 0 } } }] } } =
      [asks 3 700, asks 5 4800, asks 7 5000] := by
  exact ⟨by decide +kernel, by decide +kernel, fun b _ => by cases b <;> decide +kernel, by decide +kernel, ⟨_, rfl⟩,
    by decide +kernel, by decide +kernel⟩

/-- The 50 ms run, at address 5 and at address 0; and they do not run. -/
theorem witness_ConfigEndHandsOverTheConfiguration :
    (station .config).startUp.configTimer.isSome = true ∧ (station .config).startUp.lifecycle = .config ∧
    (station .config).startUp.address = 5 ∧ State.reset.startUp.address = 0 ∧ act.startUp.configTimer = none := by
  decide +kernel

/-- A station in LISTEN with the owner setting, and stations a last-heard timer that has run out finds heard and not heard; and one with time left. -/
theorem witness_ListenAndSilenceMoveTheLifecycle :
    ((station .listen).startUp.listenTimer.isSome = true ∧ (station .listen).startUp.lifecycle = .listen ∧
      (station .listen).cfg.fanOwner = true ∧ (station .listen).bus.stuck = false ∧ (setStuck true (station .listen)).bus.stuck = true) ∧
    (∃ s : State, s.bus.lastHeard = some 0 ∧ s.bus.heard = true ∧ s.startUp.lifecycle = .active ∧ grantsSound s ∧ economizeHeld s) ∧
    (∃ s : State, s.bus.lastHeard = some 0 ∧ s.startUp.lifecycle = .listen) ∧
    act.startUp.listenTimer = none ∧ act.bus.lastHeard ≠ some 0 := by
  exact ⟨by decide +kernel,
    ⟨{ act with bus := { act.bus with lastHeard := some 0 } }, rfl, rfl, rfl, fun b _ => by cases b <;> decide +kernel, by decide +kernel⟩,
    ⟨{ station .listen with bus := { act.bus with lastHeard := some 0 } }, rfl, rfl⟩, by decide +kernel, by decide +kernel⟩

/-- The scan timer runs and does not; the source is EXTERNAL and is not; SCAN_OUT pulses and does not. -/
theorem witness_StrobesStartScansOrAreDropped :
    act.scanner.scanTimer.isSome = true ∧ State.reset.scanner.scanTimer = none ∧
    { cfgT with scanSource := .external }.scanSource = .external ∧ act.startUp.lifecycle ≠ .config ∧
    act.cfg.scanSource ≠ .external ∧ act.scanner.scanOutTimer = none ∧
    (pulseScanOut act).scanner.scanOutTimer.isSome = true := by
  decide +kernel

/-- The code 2048 at a window of 11 samples, which it makes VALID; a channel of NONE; no scan. -/
theorem witness_AcceptedSampleEntersItsWindow :
    (act.cfg.scanList[0]?).bind act.cfg.quantityOn = some .outT ∧ (act.scanner.windows.get .outT).state ≠ .absent ∧
    sampleOf .outT (BitVec.ofNat 12 2048).toNat = some 100 ∧ (act.cfg.scanList[9]?).bind act.cfg.quantityOn = none ∧
    act.scanner.scan = none ∧
    after (.conversionComplete 2048)
      { act with
        scanner :=
          { act.scanner with
            scan := some ⟨0, 2⟩
            windows := { act.scanner.windows with
              outT := { emptyWindow .filling with samples := List.replicate 11 40, lastAccepted := some 40 } } } } (fun t =>
      decide (t.scanner.windows.outT.state = .valid ∧ t.reading .outT = some 45)) = true := by
  decide +kernel

/-- A code 0 at a sound FILLING window, and at sound VALID ones with 6 and 7 substitutes. -/
theorem witness_RejectedSampleSubstitutesOrEmpties :
    sampleOf .outT (BitVec.ofNat 12 0).toNat = none ∧ (act.scanner.windows.get .outT).sound ∧
    (act.scanner.windows.get .outT).state ≠ .valid ∧ ({ valid 40 with substituteRun := 6 } : Window).sound ∧
    ({ valid 40 with substituteRun := 7 } : Window).sound ∧ (valid 40).state = .valid := by
  decide +kernel

/-- An OUT_T sample, and a code 0 at a VALID window; a LIVE and a LOST record at their points; an own pair that counts, and one that does not. -/
theorem witness_ReferenceRecomputedOnReports :
    (act.cfg.scanList[0]?).bind act.cfg.quantityOn = some .outT ∧ tableSound act ∧ sampleOf .outT (BitVec.ofNat 12 0).toNat = none ∧
    ((deciding 0 0 0 .bypass).scanner.windows.get .outT).state = .valid ∧
    (∃ r ∈ act.table.records, r.address = (7 : Addr).toNat ∧ r.state = .live ∧
      2 * (max 5 (min 60 r.said.period)) * 1000 ≤ max r.silence 20000) ∧
    tableSound { act with table := { act.table with records := [peer 7 .lost] } } ∧
    (∃ r ∈ [peer 7 .lost], r.address = (7 : Addr).toNat ∧ r.state = .lost ∧
      30 * (max 5 (min 60 r.said.period)) * 1000 ≤ max r.silence 300000) ∧
    ownCandidate (deciding 0 0 0 .bypass) = some (150, 700) ∧ ownCandidate act = none := by
  decide +kernel

/-- Two peers at 250 judge an own average of 150, or of 246 after a sample of 250: a disagreement, and an agreement, at the last run before the change. -/
theorem witness_OwnSensorJudgedAgainstPeers :
    ∀ v ∈ [(150, OwnSensor.included, 29, 0), (250, OwnSensor.excluded, 0, 29)],
    after (.conversionComplete (BitVec.ofNat 12 (if v.1 = 150 then 2212 else 2540)))
      { act with
        table := { act.table with records := [peer 7 .live, peer 8 .live] }
        reconciler := { startReconciler with own := v.2.1, disagreeRun := v.2.2.1, agreeRun := v.2.2.2 }
        scanner :=
          { act.scanner with
            scan := some ⟨0, 2⟩, windows := { act.scanner.windows with outT := valid v.1 } } } (fun t =>
      decide (t.reconciler.own ≠ v.2.1 ∧ t.reconciler.disagreeRun = 0 ∧ t.reconciler.agreeRun = 0)) = true := by
  decide +kernel

/-- A HELD reference with its timer, and none. -/
theorem witness_HoldExpiryInvalidatesTheReference :
    ∃ s : State, ∃ p, s.reconciler.reference = .held p ∧ s.reconciler.hold.isSome = true ∧ act.reconciler.hold = none := by
  exact ⟨{ act with reconciler := { startReconciler with reference := .held ⟨150, 700, 3279⟩, hold := some 1 } }, _, rfl, rfl, rfl⟩

/-- A window with a pulse, a first zero, and a second zero in RECOVER. -/
theorem witness_GateWindowsMeasureOrStall :
    ∃ a b : Rotation, a.gate.isSome = true ∧ 0 < a.pulses ∧ b.gate.isSome = true ∧ b.settling = false ∧ b.pulses = 0 ∧ 1 ≤ b.zeroRun ∧
    act.rotation.gate = none ∧ (deciding 0 0 0 .recover).engine.applied.inPair = true ∧ act.engine.applied.inPair = false := by
  exact ⟨⟨some 0, 1, false, 0, 0⟩, ⟨some 0, 0, false, 1, 0⟩, by decide +kernel⟩

/-- Every timer of the statement runs in a state of its kind, and does not in the ACTIVE station. -/
theorem witness_TimersOfWheelDamperAndFanExpire :
    ∃ s : State, (s.output.idle.isSome = true ∧ s.output.wheel = .stopped) ∧ s.output.bypass.settle.isSome = true ∧
    s.output.outdoor.settle.isSome = true ∧ s.engine.forceBypass.isSome = true ∧
    (s.cfg.fanOwner = true ∧ s.startUp.lifecycle.inService = true ∧ s.fan.suspended = false ∧ s.fan.offDelay.isSome = true ∧
      s.fan.state = .offDelay) ∧
    ((moveWheel .purging s).output.purge.isSome = true ∧ (moveWheel .purging s).output.wheel = .purging) ∧
    act.output.idle = none ∧ act.output.purge = none ∧ act.output.bypass.settle = none ∧ act.output.outdoor.settle = none ∧
    act.engine.forceBypass = none ∧ act.fan.offDelay = none := by
  exact ⟨{ act with
      output :=
        { act.output with
          idle := some 0, bypass := { act.output.bypass with settle := some 1 }
          outdoor := { act.output.outdoor with settle := some 1 } }
      engine := { act.engine with forceBypass := some 1 }
      fan := { state := .offDelay, offDelay := some 1, suspended := false, reliefRun := true } }, by decide +kernel⟩

/-- A station in COMMISSION in each phase, in its safe state, the last two of a damper that does not move and so is a FAULT. -/
theorem witness_PolarityTestRunsItsFourPhases :
    (∀ p ∈ [(TestPhase.bypassLow, 0, 200), (.bypassHigh, 1000, 200), (.outdoorLow, 1000, 0), (.outdoorHigh, 1000, 1000)],
      safeHeld { station .commission with output := { startOutput 200 with
        test := some ⟨p.1, 1, none, none⟩, bypass := startDamper p.2.1, outdoor := startDamper p.2.2 } }) ∧
    (station .commission).engine.applied ≠ .economize ∧ (station .commission).cfg.fmin ≠ 0 ∧ (station .commission).cfg.fmin ≠ 1000 ∧
    act.output.test = none ∧ (startOutput 200).bypass.outcome ≠ .fault ∧ (startOutput 200).outdoor.outcome ≠ .fault ∧
    polarityOf (some 300) ((deciding 0 0 0 .bypass).reading .oaFb) = .fault := by
  decide +kernel

/-- The decision timer runs and does not, with demands at both sides of 50; a FRESH reference with all it is compared to, and an INVALID one. -/
theorem witness_DecisionClassifiesAndRequests :
    act.engine.decisionTimer.isSome = true ∧ State.reset.engine.decisionTimer = none ∧
    regimeOf 50 49 = .heating ∧ regimeOf 50 50 = .cooling ∧ regimeOf 49 49 = .neutral ∧ act.reconciler.reference = .invalid ∧
    (deciding 0 600 0 .bypass).reconciler.reference.point = some ⟨150, 700, 3279⟩ ∧
    (deciding 0 600 0 .bypass).reading .retT = some 240 ∧ (deciding 0 600 0 .bypass).reading .retW = some 900 := by
  decide +kernel

/-- A decision with all it compares, in each regime, with and without the bands; in fallback; and one whose judgement ends ECONOMIZE. -/
theorem witness_CandidateFollowsTheConditions :
    (∀ m ∈ [Mode.bypass, .recover, .frost, .economize],
      (deciding 0 600 0 m).engine.decisionTimer.isSome = true ∧ (deciding 0 600 0 m).reading .retT = some 240 ∧
      (deciding 0 600 0 m).reading .retW = some 900 ∧ (deciding 0 600 0 m).reconciler.reference.point = some ⟨150, 700, 3279⟩) ∧
    after (.decision .judgementFirst) (economizing 0 600 4800 1200 2) (fun t =>
      decide (t.output.outdoor.outcome = .fault ∧ t.engine.fallback = false ∧ t.engine.regime = .cooling)) = true ∧
    after (.decision .stagesFirst) act (fun t => t.engine.fallback) = true ∧ act.cfg.fallbackMode = .bypass := by
  decide +kernel

/-- A decision of an ACTIVE station, and of one that may hold no grant. -/
theorem witness_DecisionAdoptsTheShares :
    act.engine.decisionTimer.isSome = true ∧ eligible act = true ∧ eligible (station .joining) = false ∧
    (station .joining).engine.decisionTimer.isSome = true := by
  decide +kernel

/-- A decision outside ECONOMIZE at the last decision of dwell, whose ECONOMIZE candidate is unavailable without a grant, and available with one. With
ECONOMIZE applied: a share one below the least useful one, that one, a grant the allocation takes away, a BYPASS and a RECOVER target after dwell, and
an outdoor damper judged FAULT first. -/
theorem witness_DecisionActsOnItsTarget :
    (deciding 0 600 0 .bypass).engine.decisionTimer.isSome = true ∧ (deciding 0 600 0 .bypass).engine.applied ≠ .economize ∧
    0 < act.cfg.dwell ∧
    after (.decision .stagesFirst) (deciding 0 600 0 .bypass) (fun t =>
      decide (t.engine.candidate = .economize ∧ t.engine.target = .bypass)) = true ∧
    after (.decision .stagesFirst)
      { deciding 0 600 0 .bypass with
        allocator := { act.allocator with relief := { value := 12000, participants := [], ownShare := 1200, grant := 0 } } }
      (fun t => decide (t.engine.target = .economize ∧ t.stagger.pending.isSome = true)) = true ∧
    after (.decision .stagesFirst) (economizing 0 600 4800 1199 0) (fun t => decide (t.engine.applied = .bypass)) = true ∧
    after (.decision .stagesFirst) (economizing 0 600 4800 1200 0) (fun t =>
      decide (t.engine.applied = .economize ∧ t.engine.target = .economize)) = true ∧
    after (.decision .judgementFirst)
      { economizing 0 600 4000 1200 0 with
        allocator := { act.allocator with relief := { value := 1199, participants := [], ownShare := 1200, grant := 1200 } } }
      (fun t => decide (t.engine.applied = .bypass ∧ t.grant .relief < 1200)) = true ∧
    after (.decision .stagesFirst) (economizing 0 0 0 1 0) (fun t =>
      decide (t.engine.target = .bypass ∧ t.engine.applied = .bypass)) = true ∧
    after (.decision .judgementFirst) (economizing 800 0 0 1 0) (fun t =>
      decide (t.engine.target = .recover ∧ t.engine.applied = .economize ∧
        t.stagger.pending.map Pending.kind = some .wheelStart)) = true ∧
    after (.decision .judgementFirst) (economizing 0 600 4800 1200 2) (fun t =>
      decide (t.output.outdoor.outcome = .fault ∧ t.engine.applied = .bypass ∧ t.engine.dwell = 1)) = true := by
  decide +kernel

/-- Decisions that leave the recovery pair applied, at and between the limits of EXH_T, one that enters it from a purging wheel, and one in BYPASS. -/
theorem witness_FrostRulesSetSpeedAndMember :
    (∀ x ∈ [(-10 : Int), -9, 9, 10],
      after (.decision .stagesFirst)
        { deciding 800 0 x .frost with output := { act.output with wheel := .running, wheelRun := true, wheelSpd := 400 } }
        (fun t => t.engine.applied.inPair && decide (t.engine.regime = .heating)) = true) ∧
    after (.decision .stagesFirst) (moveWheel .purging (deciding 800 0 (-10) .bypass)) (fun t =>
      decide (t.engine.applied = .frost ∧ t.engine.speedTarget = 600 ∧ t.engine.dwell = 0)) = true ∧
    after (.decision .stagesFirst) (deciding 0 600 0 .bypass) (fun t => decide (t.engine.applied.inPair = false)) = true := by
  decide +kernel

/-- A damper at a mismatch of 800 at its second and its third, one in agreement, one settling. -/
theorem witness_DecisionJudgesTheDampers :
    ∃ s : State, s.engine.decisionTimer.isSome = true ∧ s.reading .bypFb = some 1000 ∧ s.output.bypass.settle = none ∧
    s.output.bypass.outcome = .normal ∧ (((s.output.bypass.command : Int) - 1000).natAbs ≤ 200) ∧
    s.reading .oaFb = some 200 ∧ s.output.outdoor.settle = none ∧ s.output.outdoor.outcome = .reversed ∧
    200 < (((s.output.outdoor.command : Int) - (1000 - 200)).natAbs) ∧ 2 ≤ s.output.outdoor.mismatches ∧
    act.output.bypass.outcome = .untested := by
  exact ⟨{ deciding 0 0 0 .bypass with
      output :=
        { act.output with
          bypass := { act.output.bypass with outcome := .normal }
          outdoor := { act.output.outdoor with outcome := .reversed, mismatches := 2 } } }, by decide +kernel⟩

/-- A pending transition of each kind whose test passes, at the least grant that lets it, and one whose test fails; a WHEEL_START in HEATING at EXH_T −10
and −9, by hand 800 × 3 / 4 and 800. -/
theorem witness_SlotsComeInOrderOfKeyAndComplete :
    (∃ s : State, ∃ p, s.stagger.pending = some p ∧ p.kind = .econOpen ∧ s.stagger.windowTimer.isSome = true ∧
      s.stagger.slotTimer.isSome = true ∧ s.startUp.lifecycle = .active ∧ s.output.outdoor.outcome ≠ .fault ∧
      max 1 (s.cfg.minUseful * s.engine.reliefRequest / 100) ≤ s.grant .relief ∧ s.output.wheel ≠ .stalled ∧
      act.grant .relief < max 1 (act.cfg.minUseful * act.engine.reliefRequest / 100) ∧ act.stagger.pending = none) ∧
    (∀ v ∈ [((-10 : Int), Mode.frost, 600), (-9, .recover, 800)],
      after .slotTimerExpiry
        { deciding 800 0 v.1 .bypass with
          engine := { act.engine with regime := .heating, baseSpeed := 800 }
          stagger := { idleStagger with pending := some ⟨.wheelStart, ⟨100, 5⟩, .slotWait, false⟩, slotTimer := some 0 } }
        (fun t => decide (t.engine.applied = v.2.1 ∧ t.engine.speedTarget = v.2.2)) = true) := by
  refine ⟨⟨{ act with
      stagger :=
        { idleStagger with
          pending := some ⟨.econOpen, ⟨100, 5⟩, .window, false⟩, windowTimer := some 1, slotTimer := some 1 }
      allocator := { act.allocator with relief := { value := 12000, participants := [], ownShare := 1, grant := 1 } } },
    _, rfl, by decide +kernel⟩, by decide +kernel⟩

/-- A record in each state, in a table that is sound, its point just reached and not quite; and the table without the record an expiry is for. -/
theorem witness_SilenceMovesOneRecord :
    (∀ v ∈ [(PeerState.live, 2, 20000), (.coasting, 6, 60000), (.lost, 30, 300000)],
      tableSound { act with table := { act.table with records := [peer 7 v.1, peer 9 .live] } } ∧
      (peer 7 v.1).address = (7 : Addr).toNat ∧ (peer 7 v.1).state = v.1 ∧
      v.2.1 * (max 5 (min 60 (peer 7 v.1).said.period)) * 1000 ≤ max (peer 7 v.1).silence v.2.2 ∧
      max (peer 7 v.1).silence (v.2.2 - 1) < v.2.1 * (max 5 (min 60 (peer 7 v.1).said.period)) * 1000) ∧
    (∀ r ∈ act.table.records, r.address = (7 : Addr).toNat → r.state ≠ .coasting ∧ r.state ≠ .lost) := by
  decide +kernel

/-- A valid ANNOUNCE of the peer the table holds: a duplicate, the successor, and a gap. -/
theorem witness_AnnounceUpdatesItsRecord :
    ∀ n ∈ [8, 9, 10], canReceive act = true ∧ frameWhole (announceFrom 7 n) = true ∧ frameValid (announceFrom 7 n) = true ∧
    frameKind (announceFrom 7 n) = some .announce ∧ frameSource (announceFrom 7 n) = 7 ∧
    (announcementOf (announceFrom 7 n)).sequence = n ∧ tableSound act ∧
    (∃ r ∈ act.table.records, r.address = frameSource (announceFrom 7 n)) := by
  decide +kernel

/-- Room; and a full table that holds a LOST record, an outdoor-only one, and neither. -/
theorem witness_AnnounceAdmitsEvictsOrIsRefused :
    (canReceive act = true ∧ frameSource (announceFrom 50 1) = 50 ∧ (∀ r ∈ act.table.records, r.address ≠ 50) ∧
      act.table.records.length < 32) ∧
    (∀ r ∈ [peer 38 .lost, outsider 38, peer 38 .live],
      tableSound { act with table := { act.table with records := (List.range 31).map (fun i => peer (i + 6) .live) ++ [r] } } ∧
      ((List.range 31).map (fun i => peer (i + 6) .live) ++ [r]).length = 32) := by
  decide +kernel

/-- A valid INTENT of the own riser group, in WINDOW, with 15 and with 16 keys in the list. -/
theorem witness_IntentEntersTheList :
    frameWhole (buildFrame .intent 7 (intentBody .wheelStart 1 640)) = true ∧
    frameValid (buildFrame .intent 7 (intentBody .wheelStart 1 640)) = true ∧
    frameKind (buildFrame .intent 7 (intentBody .wheelStart 1 640)) = some .intent ∧
    byteAt (buildFrame .intent 7 (intentBody .wheelStart 1 640)) 6 = 1 ∧
    (∀ n ∈ [15, 16], ∃ s : State, s.stagger.intents.length = n ∧ canReceive s = true ∧ intentsSound s ∧ inWindow s = true ∧
      s.cfg.riserGroup ≠ 0) := by
  refine ⟨by decide +kernel, by decide +kernel, by decide +kernel, by decide +kernel, ?_⟩
  intro n hn
  refine ⟨{ act with
      stagger :=
        { idleStagger with
          pending := some ⟨.wheelStart, ⟨100, 5⟩, .window, false⟩
          intents := (List.range n).map fun i => ⟨i, i + 10⟩ } }, ?_⟩
  simp only [List.mem_cons, List.not_mem_nil, or_false] at hn
  rcases hn with rfl | rfl <;> decide +kernel

/-- A valid REPLY, a QUERY to address 9 and a frame with a wrong CRC, at stations ISOLATED and not; a receiver that takes no frame. -/
theorem witness_FramesAreHeardOrDiscarded :
    frameValid (buildFrame .reply 7 [3, 1, 0]) = true ∧ frameKind (buildFrame .reply 7 [3, 1, 0]) = some .reply ∧
    frameValid (buildFrame .query 7 [9, 1, 0, 0]) = true ∧ frameKind (buildFrame .query 7 [9, 1, 0, 0]) = some .query ∧
    byteAt (buildFrame .query 7 [9, 1, 0, 0]) 5 ≠ act.startUp.address ∧ frameWhole [0xC7, 0x40, 3, 0, 0, 1, 2, 0] = true ∧
    frameValid [0xC7, 0x40, 3, 0, 0, 1, 2, 0] = false ∧ canReceive act = true ∧ canReceive (station .isolated) = true ∧
    State.reset.bus.receiver = .off := by
  decide +kernel

/-- An ANNOUNCE from the own address, in ECONOMIZE with a grant; clash timers that have run out, in ACTIVE and in JOINING, and one with time left. -/
theorem witness_OwnAddressHeardIsAClash :
    canReceive act = true ∧ frameValid (announceFrom 5 1) = true ∧ frameSource (announceFrom 5 1) = act.startUp.address ∧
    tableSound act ∧ act.bus.clash = false ∧ act.bus.clashTimer = none ∧ (economizing 0 600 4800 1200 0).engine.applied = .economize ∧
    0 < (economizing 0 600 4800 1200 0).grant .relief ∧
    (judgeClash act).bus.clash = true ∧ (judgeClash act).bus.clashTimer ≠ some 0 ∧
    (∀ l ∈ [Lifecycle.active, .joining],
      ({ station l with bus := { act.bus with clash := true, clashTimer := some 0 } } : State).bus.clashTimer = some 0 ∧
      (station l).startUp.lifecycle = l ∧ tableSound (station l)) := by
  decide +kernel

/-- Receivers in each state with a quiet transmitter, in service with a frame to send and without, stuck and not. -/
theorem witness_LineEventsMoveReceiverAndTransmitter :
    act.bus.transmitter = .quiet ∧ act.bus.receiver = .collecting ∧ act.bus.stuck = false ∧ (setStuck true act).bus.stuck = true ∧
    State.reset.bus.receiver = .off ∧ (receiverTo .idle act).bus.receiver = .idle ∧ offered act = none ∧
    offered { act with bus := { act.bus with announceSlot := some [1], replySlots := [[2]] } } = some (.announce, [1]) ∧
    offered { station .listen with bus := { act.bus with replySlots := [[2]] } } = some (.reply, [2]) ∧
    (station .listen).startUp.lifecycle.inService = false := by
  decide +kernel

/-- The announcement timer runs, on a line that is idle and on one that is not; and it does not run. -/
theorem witness_AnnouncementSnapshotsTheStation :
    act.bus.announceTimer.isSome = true ∧ (receiverTo .idle act).bus.receiver = .idle ∧ act.bus.receiver ≠ .idle ∧
    act.bus.intentSlot = none ∧ State.reset.bus.announceTimer = none := by
  decide +kernel

/-- A query of address 9, with an index in the table and one past it; the two fault bytes as one number by bits. -/
theorem witness_ReadingQueriesAreAnswered :
    canReceive act = true ∧ (9 : Addr).toNat ≠ act.startUp.address ∧ act.startUp.lifecycle.answers = true ∧
    act.bus.replySlots.length < 2 ∧ act.table.records[(0 : Half).toNat]? = some (peer 7 .live) ∧
    act.table.records.length ≤ (1 : Half).toNat ∧ ({ noFaults with sensor := true, isolated := true } : FaultSet).toByte = 0x81 := by
  decide +kernel

/-- A query of address 9 with arguments 0, 1 and 241, a STALLED wheel and another, and an unknown kind. -/
theorem witness_ActingQueriesAct :
    canReceive act = true ∧ (9 : Addr).toNat ≠ act.startUp.address ∧ act.startUp.lifecycle.answers = true ∧
    act.bus.replySlots.length < 2 ∧ (0 : Half).toNat = 0 ∧ (241 : Half).toNat ≠ 0 ∧ (moveWheel .stalled act).output.wheel = .stalled ∧
    act.output.wheel ≠ .stalled ∧ (Instr.unknown 9 0 0).wf = true ∧ (Instr.unknown 9 9 0).wf = true := by
  decide +kernel

/-- Both REPLY slots full; a state that does not answer; the own address; a receiver that is OFF. -/
theorem witness_QueriesAreDroppedOrIgnored :
    ({ act.bus with replySlots := [[1], [2]] } : Bus).replySlots.length = 2 ∧ (station .service).startUp.lifecycle.answers = false ∧
    canReceive (station .service) = true ∧ (5 : Addr).toNat = act.startUp.address ∧ canReceive State.reset = false := by
  decide +kernel

/-- An own ANNOUNCE of flag JOINING on the line in JOINING, as the second and the third; and no transmission. -/
theorem witness_AnnounceOutcomesCountTowardActive :
    ∃ x : Transmission, x.slot = .announce ∧ byteAt x.frame 6 / 64 = 0 ∧ (station .joining).startUp.lifecycle = .joining ∧
    1 < 2 ∧ 2 ≤ 2 ∧ Transmitter.sending ≠ .quiet ∧ tableSound (station .joining) ∧ act.bus.onAir = none := by
  exact ⟨⟨.announce, [], true⟩, by decide +kernel⟩

/-- An INTENT on the line that its slot holds and one that it does not, resent and not; one whose transition was cancelled; a backoff that runs, and none. -/
theorem witness_IntentOutcomesOpenTheWindow :
    ∃ s u : State, ∃ x p, s.bus.onAir = some x ∧ s.bus.transmitter ≠ .quiet ∧ x.slot = .intent ∧ x.inSlot = true ∧
    s.stagger.pending = some p ∧ p.resendUsed = false ∧ s.stagger.backoff.isSome = true ∧ act.stagger.backoff = none ∧
    u.bus = s.bus ∧ u.stagger.pending = none := by
  exact ⟨{ act with
      bus := { act.bus with transmitter := .sending, onAir := some ⟨.intent, [], true⟩ }
      stagger := { idleStagger with pending := some ⟨.wheelStart, ⟨100, 5⟩, .queued, false⟩, backoff := some 1 } },
    { act with bus := { act.bus with transmitter := .sending, onAir := some ⟨.intent, [], true⟩ } },
    _, _, rfl, by decide +kernel, rfl, rfl, rfl, rfl, rfl, rfl, rfl, rfl⟩

/-- The REPLY of an RSTW on the line with a restart pending, and another REPLY. -/
theorem witness_RestartIsTakenAtItsReply :
    ∃ s : State, ∃ x, s.bus.onAir = some x ∧ s.bus.transmitter ≠ .quiet ∧ x.slot = .reply ∧ x.inSlot = true ∧
    s.startUp.restartPending = true ∧ byteAt x.frame 6 = 5 ∧ byteAt (buildFrame .reply 5 [9, 4, 0]) 6 ≠ 5 ∧
    act.startUp.restartPending = false ∧ act.bus.onAir = none := by
  exact ⟨{ act with
      startUp := { act.startUp with restartPending := true }
      bus :=
        { act.bus with
          transmitter := .sending, onAir := some ⟨.reply, buildFrame .reply 5 [9, 5, 0], true⟩
          replySlots := [buildFrame .reply 5 [9, 5, 0]] } }, _, rfl, by decide +kernel⟩

end Sys2Proof.Tests
end

