-- ==== Sys2Proof/Proofs/Candidate.lean ====
section
/-! SUPPORT. The candidate of a decision (R6 to R8): the state its stages start from, the mode applied there, and what stage 4 makes of it. -/

namespace Sys2Proof.Machine

/-! ### The mismatch judgement and the applied mode (R21, R144, R146) -/

/-- A damper that is FAULT already is not judged: its outcome is not monitored (R144, R146). -/
theorem judgement_of_fault {d : Damper} {s : State} (h : (s.output.damper d).outcome = .fault) : judgement d s = none := by
  simp [judgement, h, feedbackReading]

/-- A change of mismatch count leaves every outcome. -/
@[simp] theorem setMismatches_outcome (d e : Damper) (n : Nat) (s : State) :
    ((setMismatches d n s).output.damper e).outcome = (s.output.damper e).outcome := by
  cases d <;> cases e <;> rfl

/-- A judgement makes its damper FAULT, or leaves the engine and every outcome (R146). -/
theorem applyJudgement_cases (d : Damper) (j : Option Bool) (s : State) :
    (j = some true ∧ applyJudgement d j s = setOutcome d .fault (setMismatches d 0 s)) ∨
    ((applyJudgement d j s).engine = s.engine ∧
      ∀ e, ((applyJudgement d j s).output.damper e).outcome = (s.output.damper e).outcome) := by
  unfold applyJudgement
  split
  · exact .inr ⟨rfl, fun _ => rfl⟩
  · exact .inr (by simp)
  · split
    · exact .inl ⟨rfl, rfl⟩
    · exact .inr (by simp)

/-- An outcome of the bypass damper leaves the engine and the outdoor outcome: only an outdoor FAULT forces a mode (R21). -/
theorem setOutcome_bypass (o : Polarity) (s : State) :
    (setOutcome .bypass o s).engine = s.engine ∧
    (setOutcome .bypass o s).output.outdoor.outcome = s.output.outdoor.outcome := by
  unfold setOutcome
  dsimp only
  rw [if_neg (by simp)]
  split <;> simp [Output.setDamper]

/-- An outdoor FAULT is recorded, and moves ECONOMIZE to BYPASS (R21, R144). -/
theorem setOutcome_outdoor_fault (s : State) :
    (setOutcome .outdoor .fault s).output.outdoor.outcome = .fault ∧
    (setOutcome .outdoor .fault s).engine.applied =
      if s.engine.applied = .economize then .bypass else s.engine.applied := by
  unfold setOutcome
  dsimp only
  by_cases h : s.engine.applied = .economize
  · rw [if_pos (by simp [h]), if_pos h]
    split <;> simp [forcedChange_engine, Output.setDamper]
  · rw [if_neg (by simp [h]), if_neg h]
    split <;> simp [Output.setDamper]

/-- A judgement of the bypass damper moves neither the applied mode nor the outdoor outcome (R21). -/
theorem applyJudgement_bypass (j : Option Bool) (s : State) :
    (applyJudgement .bypass j s).engine = s.engine ∧
    (applyJudgement .bypass j s).output.outdoor.outcome = s.output.outdoor.outcome := by
  rcases applyJudgement_cases .bypass j s with ⟨-, hfault⟩ | ⟨hengine, houtcome⟩
  · obtain ⟨hengine, houtcome⟩ := setOutcome_bypass .fault (setMismatches .bypass 0 s)
    rw [hfault]
    exact ⟨hengine, houtcome.trans (setMismatches_outcome .bypass .outdoor 0 s)⟩
  · exact ⟨hengine, houtcome .outdoor⟩

/-- The judgements of a state move its applied mode from ECONOMIZE to BYPASS exactly when they change the outdoor outcome (R21, R146). -/
theorem applyJudgements_applied (s : State) :
    (applyJudgements s s).engine.applied =
      if s.engine.applied = .economize ∧ (applyJudgements s s).output.outdoor.outcome ≠ s.output.outdoor.outcome
      then .bypass else s.engine.applied := by
  obtain ⟨hengine, houtcome⟩ := applyJudgement_bypass (judgement .bypass s) s
  unfold applyJudgements
  rcases applyJudgement_cases .outdoor (judgement .outdoor s) (applyJudgement .bypass (judgement .bypass s) s) with
    ⟨hjudged, hfault⟩ | ⟨hkept, hsame⟩
  · obtain ⟨hnow, happlied⟩ := setOutcome_outdoor_fault (setMismatches .outdoor 0 (applyJudgement .bypass (judgement .bypass s) s))
    have hbefore : s.output.outdoor.outcome ≠ .fault := fun h => by
      simp [judgement_of_fault (d := .outdoor) (s := s) h] at hjudged
    rw [hfault, hnow, happlied]
    simp [hengine, hbefore.symm]
  · have hout := (hsame .outdoor).trans houtcome
    rw [hkept, hengine, if_neg fun h => h.2 hout]

/-! ### The state the stages start from (R2, R147) -/

/-- The state in which an expiry of the decision timer takes stage 1: the timer restarted, and the dampers judged when that comes first. -/
def stagesStart (order : DecisionOrder) (s : State) : State :=
  let s := { s with engine := { s.engine with decisionTimer := some (secs s.cfg.decisionPeriod) } }
  match order with
  | .judgementFirst => applyJudgements s s
  | .stagesFirst => s

/-- A decision reads configuration, windows and reference as the expiry found them. -/
@[simp] theorem stagesStart_frame (order : DecisionOrder) (s : State) :
    (stagesStart order s).startUp = s.startUp ∧ (stagesStart order s).scanner = s.scanner ∧
    (stagesStart order s).reconciler = s.reconciler := by
  cases order <;> simp [stagesStart]

/-- A running decision timer expires. -/
theorem exec_decision_running (order : DecisionOrder) {s : State} (h : s.engine.decisionTimer.isSome = true) :
    exec (.decision order) s = .next (decisionExpires order s) := by
  change execDecision order s = _
  simp [execDecision, h]

/-- Regime, fallback and candidate of an expiry are those of the stages: a judgement taken after them leaves all three. -/
theorem decisionExpires_classification (order : DecisionOrder) (s : State) :
    (decisionExpires order s).engine.regime = (decide_ (stagesStart order s)).engine.regime ∧
    (decisionExpires order s).engine.fallback = (decide_ (stagesStart order s)).engine.fallback ∧
    (decisionExpires order s).engine.candidate = (decide_ (stagesStart order s)).engine.candidate := by
  cases order <;> simp [decisionExpires, stagesStart]

/-- The mode applied when the stages start: only a judgement taken first has moved it, and it shows in the outdoor outcome (R21, R147). -/
theorem stagesStart_applied (order : DecisionOrder) (s : State) :
    (stagesStart order s).engine.applied =
      if order = .judgementFirst ∧ s.engine.applied = .economize ∧
        (decisionExpires order s).output.outdoor.outcome ≠ s.output.outdoor.outcome
      then .bypass else s.engine.applied := by
  cases order with
  | judgementFirst => simpa [stagesStart, decisionExpires] using applyJudgements_applied _
  | stagesFirst => simp [stagesStart]

/-! ### The air of a decision (R3, R6) -/

/-- The air of a state is read from its windows and its reference alone. -/
theorem airOf_congr {s t : State} (hscanner : t.scanner = s.scanner) (hreconciler : t.reconciler = s.reconciler) :
    airOf t = airOf s := by
  simp [airOf, returnEnthalpy, State.reading, hscanner, hreconciler]

/-- With both return readings and an outdoor point a decision has its air. -/
theorem airOf_eq_some {s : State} {rt rw : Int} {p : OutdoorPoint} (hp : p ∈ s.reconciler.reference.point)
    (hrt : s.reading .retT = some rt) (hrw : s.reading .retW = some rw) :
    airOf s = some { retT := rt, hr := enthalpy rt rw, outT := p.t, ho := p.h } := by
  simp [airOf, returnEnthalpy, hrt, hrw, Option.mem_def.mp hp]

/-! ### Stages 3 and 4 of a decision (R6 to R8) -/

/-- The stages after stage 4 and the allocations leave its candidate. -/
theorem candidate_decide (s : State) :
    (decide_ s).engine.candidate = (stageCandidate (stageRegime (stageAdopt (stageDwell s)))).engine.candidate := by
  simp [decide_, decisionStages]

/-- A decision is in fallback exactly without its air (R6). -/
theorem fallback_decide (s : State) : (decide_ s).engine.fallback = (airOf s).isNone := by
  have hair : airOf (stageAdopt (stageDwell s)) = airOf s := airOf_congr (by simp) (by simp)
  simp [decide_, decisionStages, stageRegime, hair]

/-- Outside fallback the candidate follows the conditions of the regime, with the mode applied when the stages start (R7, R8). -/
theorem candidate_decide_of_air {s : State} {a : Air} (h : airOf s = some a) :
    (decide_ s).engine.candidate = candidateOf s.cfg (decide_ s).engine.regime s.engine.applied a := by
  have hair : airOf (stageRegime (stageAdopt (stageDwell s))) = some a := (airOf_congr (by simp) (by simp)).trans h
  have hregime : (decide_ s).engine.regime = (stageRegime (stageAdopt (stageDwell s))).engine.regime := by
    simp [decide_, decisionStages]
  rw [candidate_decide, hregime]
  simp [stageCandidate, hair, State.cfg]

/-- In fallback the candidate is the configured mode (R6). -/
theorem candidate_decide_of_fallback {s : State} (h : airOf s = none) :
    (decide_ s).engine.candidate = s.cfg.fallbackMode.target := by
  have hair : airOf (stageRegime (stageAdopt (stageDwell s))) = none := (airOf_congr (by simp) (by simp)).trans h
  rw [candidate_decide]
  simp [stageCandidate, hair, State.cfg]

/-! ### An expiry of the decision timer, in the terms of the state it finds -/

/-- An expiry is in fallback exactly when the state it finds has no air. -/
theorem decisionExpires_fallback (order : DecisionOrder) (s : State) :
    (decisionExpires order s).engine.fallback = (airOf s).isNone := by
  obtain ⟨-, hfallback, -⟩ := decisionExpires_classification order s
  have hair : airOf (stagesStart order s) = airOf s := airOf_congr (by simp) (by simp)
  rw [hfallback, fallback_decide, hair]

/-- The candidate of an expiry outside fallback. -/
theorem decisionExpires_candidate_of_air (order : DecisionOrder) {s : State} {a : Air} (h : airOf s = some a) :
    (decisionExpires order s).engine.candidate =
      candidateOf s.cfg (decisionExpires order s).engine.regime (stagesStart order s).engine.applied a := by
  obtain ⟨hregime, -, hcandidate⟩ := decisionExpires_classification order s
  have hair : airOf (stagesStart order s) = some a := (airOf_congr (by simp) (by simp)).trans h
  rw [hcandidate, hregime, candidate_decide_of_air hair]
  simp [State.cfg]

/-- The candidate of an expiry in fallback. -/
theorem decisionExpires_candidate_of_fallback (order : DecisionOrder) {s : State} (h : airOf s = none) :
    (decisionExpires order s).engine.candidate = s.cfg.fallbackMode.target := by
  obtain ⟨-, -, hcandidate⟩ := decisionExpires_classification order s
  have hair : airOf (stagesStart order s) = none := (airOf_congr (by simp) (by simp)).trans h
  rw [hcandidate, candidate_decide_of_fallback hair]
  simp [State.cfg]

/-! ### The conditions of the regimes (R7, R8) -/

/-- The HEATING candidate is RECOVER from the threshold on, BYPASS below it (R7). -/
theorem candidateOf_heating (c : Settings) (m : Mode) (a : Air) :
    ((c.dTrec : Int) - (if m.inPair = true then (c.recBand : Int) else 0) ≤ a.retT - a.outT →
      candidateOf c .heating m a = .recover) ∧
    (a.retT - a.outT < (c.dTrec : Int) - (if m.inPair = true then (c.recBand : Int) else 0) →
      candidateOf c .heating m a = .bypass) := by
  constructor <;> intro h <;> simp only [candidateOf, heatingRecovers]
  · simp [h]
  · simp [not_le.mpr h]

/-- The COOLING candidate is ECONOMIZE when all three tests pass (R8). -/
theorem candidateOf_cooling_economize {c : Settings} {m : Mode} {a : Air}
    (hh : a.ho ≤ a.hr - c.me + (if m = .economize then (c.hb : Int) else 0)) (ht : a.outT ≤ a.retT - 10)
    (hlow : c.tlow ≤ a.outT) : candidateOf c .cooling m a = .economize := by
  simp [candidateOf, economizes, hh, ht, hlow]

/-- When one of the three fails, the COOLING candidate is RECOVER from the enthalpy threshold on, BYPASS below it (R8). -/
theorem candidateOf_cooling_otherwise {c : Settings} {m : Mode} {a : Air}
    (hfails : a.hr - c.me + (if m = .economize then (c.hb : Int) else 0) < a.ho ∨ a.retT - 10 < a.outT ∨ a.outT < c.tlow) :
    (a.hr + c.mr - (if m.inPair = true then (c.hb : Int) else 0) ≤ a.ho → candidateOf c .cooling m a = .recover) ∧
    (a.ho < a.hr + c.mr - (if m.inPair = true then (c.hb : Int) else 0) → candidateOf c .cooling m a = .bypass) := by
  have heconomizes : economizes c m a = false := by
    rcases hfails with h | h | h <;> simp [economizes, not_le.mpr h]
  constructor <;> intro h <;> simp only [candidateOf, heconomizes, coolingRecovers]
  · simp [h]
  · simp [not_le.mpr h]

/-- Settles O41: the state after the expiry is `decisionExpires order s`, and the bands are those of the mode applied in `stagesStart order s`. -/
theorem candidateFollowsTheConditions : Obligations.CandidateFollowsTheConditions := by
  unfold Obligations.CandidateFollowsTheConditions
  intro order s hrunning
  refine ⟨decisionExpires order s, (stagesStart order s).engine.applied, exec_decision_running order hrunning,
    stagesStart_applied order s, ?fallback, ?neutral, ?regimes⟩
  case fallback =>
    intro hfallback
    rw [decisionExpires_fallback, Option.isNone_iff_eq_none] at hfallback
    rw [decisionExpires_candidate_of_fallback order hfallback]
    exact ⟨fun h => by rw [h]; rfl, fun h => by rw [h]; rfl⟩
  case neutral =>
    intro hfallback hneutral
    rw [decisionExpires_fallback, Option.isNone_eq_false_iff, Option.isSome_iff_exists] at hfallback
    obtain ⟨a, hair⟩ := hfallback
    rw [decisionExpires_candidate_of_air order hair, hneutral]
    rfl
  case regimes =>
    intro rt rw p hp hrt hrw
    have hcandidate := decisionExpires_candidate_of_air order (airOf_eq_some hp hrt hrw)
    refine ⟨_, _, _, rfl, rfl, rfl, fun hheating => ?_, fun hcooling => ?_⟩
    · rw [hcandidate, hheating]
      exact candidateOf_heating s.cfg _ ⟨rt, enthalpy rt rw, p.t, p.h⟩
    · rw [hcandidate, hcooling]
      exact ⟨candidateOf_cooling_economize (a := ⟨rt, enthalpy rt rw, p.t, p.h⟩),
        candidateOf_cooling_otherwise (a := ⟨rt, enthalpy rt rw, p.t, p.h⟩)⟩

end Sys2Proof.Machine
end

