-- ==== Sys2Proof/Proofs/FixedPoint.lean ====
section
/-! SUPPORT. The formulas of spec/02: the ramp that scaling, derating and the cooling target share, and rounding half away from zero (R26 to R37). -/

namespace Sys2Proof.Machine

/-! ### Clamping (spec/00_scope.md) -/

/-- A value below a range is clamped to its lower end. -/
theorem clampInt_of_le_lo {lo v : Int} (hi : Int) (h : v ≤ lo) : clampInt lo hi v = lo := by
  unfold clampInt; omega

/-- A value above a range is clamped to its upper end. -/
theorem clampInt_of_hi_le {lo hi v : Int} (hlh : lo ≤ hi) (h : hi ≤ v) : clampInt lo hi v = hi := by
  unfold clampInt; omega

/-- A value inside a range is kept. -/
theorem clampInt_of_mem {lo hi v : Int} (hlo : lo ≤ v) (hhi : v ≤ hi) : clampInt lo hi v = v := by
  unfold clampInt; omega

/-- A clamped value lies in its range. -/
theorem clampInt_mem {lo hi : Int} (v : Int) (hlh : lo ≤ hi) : lo ≤ clampInt lo hi v ∧ clampInt lo hi v ≤ hi := by
  unfold clampInt; omega

/-- Clamping keeps the order. -/
theorem clampInt_mono {lo hi v w : Int} (h : v ≤ w) : clampInt lo hi v ≤ clampInt lo hi w := by
  unfold clampInt; omega

/-! ### The ramp: a straight line from 0 at 0 to c at d, flat outside (R28, R32, R37) -/

/-- The floor of the line through (0, 0) and (d, c) at x clamped to the line's ends. -/
def ramp (c d x : Int) : Int := c * clampInt 0 d x / d

/-- Before its start the ramp is 0. -/
theorem ramp_of_nonpos (c d : Int) {x : Int} (hx : x ≤ 0) : ramp c d x = 0 := by
  simp [ramp, clampInt_of_le_lo d hx]

/-- From its end on the ramp is at its height. -/
theorem ramp_of_ge (c : Int) {d x : Int} (hd : 0 < d) (hx : d ≤ x) : ramp c d x = c := by
  rw [ramp, clampInt_of_hi_le hd.le hx, Int.mul_ediv_cancel _ hd.ne']

/-- On the line the ramp is the floor of c × x / d. -/
theorem ramp_floor (c : Int) {d x : Int} (hd : 0 < d) (h0 : 0 ≤ x) (hx : x ≤ d) :
    ramp c d x * d ≤ c * x ∧ c * x < (ramp c d x + 1) * d := by
  rw [ramp, clampInt_of_mem h0 hx]
  exact ⟨Int.ediv_mul_le _ hd.ne', Int.lt_ediv_add_one_mul_self _ hd⟩

/-- A ramp of no negative height never falls. -/
theorem ramp_mono {c d x y : Int} (hc : 0 ≤ c) (hd : 0 ≤ d) (h : x ≤ y) : ramp c d x ≤ ramp c d y := by
  rcases hd.eq_or_lt with rfl | hpos
  · simp [ramp]
  · exact Int.ediv_le_ediv hpos (mul_le_mul_of_nonneg_left (clampInt_mono h) hc)

/-- A ramp of no negative height stays from 0 to its height. -/
theorem ramp_mem {c d : Int} (hc : 0 ≤ c) (hd : 0 < d) (x : Int) : 0 ≤ ramp c d x ∧ ramp c d x ≤ c := by
  have hlow : ramp c d (min 0 x) ≤ ramp c d x := ramp_mono hc hd.le (min_le_right 0 x)
  have hhigh : ramp c d x ≤ ramp c d (max d x) := ramp_mono hc hd.le (le_max_right d x)
  rw [ramp_of_nonpos c d (min_le_left 0 x)] at hlow
  rw [ramp_of_ge c hd (le_max_left d x)] at hhigh
  exact ⟨hlow, hhigh⟩

/-! ### Codes and samples (R27, R28) -/

/-- The span of a quantity is not empty. -/
theorem span_fst_lt_snd (q : Quantity) : (span q).1 < (span q).2 := by
  cases q <;> decide

/-- A code outside the accepted band gives no sample (R27). -/
theorem sampleOf_of_rejected (q : Quantity) {c : Nat} (h : c ≤ 327 ∨ 3769 ≤ c) : sampleOf q c = none := by
  have hcode : scalingCode c = none := by
    rcases h with hlow | hhigh
    · simp [scalingCode, hlow]
    · simp only [scalingCode]
      rw [if_neg (by omega), if_neg (by omega), if_neg (by omega), if_neg (by omega)]
  simp [sampleOf, hcode]

/-- The code used for scaling lies as far above 410 as R27's clamp of the code. -/
theorem scalingCode_of_accepted {c : Nat} (hlo : 328 ≤ c) (hhi : c ≤ 3768) :
    ∃ k, scalingCode c = some k ∧ (k : Int) - 410 = clampInt 0 3276 (c - 410) := by
  unfold scalingCode
  rw [if_neg (by omega)]
  split_ifs with hbelow hwithin
  · exact ⟨410, rfl, by unfold clampInt; omega⟩
  · exact ⟨c, rfl, by unfold clampInt; omega⟩
  · exact ⟨3686, rfl, by unfold clampInt; omega⟩

/-- An accepted code gives the ramp over the span of the quantity (R28). -/
theorem sampleOf_of_accepted (q : Quantity) {c : Nat} (hlo : 328 ≤ c) (hhi : c ≤ 3768) :
    sampleOf q c = some ((span q).1 + ramp ((span q).2 - (span q).1) 3276 (c - 410)) := by
  obtain ⟨k, hcode, hclamp⟩ := scalingCode_of_accepted hlo hhi
  simp [sampleOf, hcode, scale, ramp, ← hclamp, mul_comm]

/-- An accepted code up to 410 gives the lower end of the span. -/
theorem sampleOf_of_low (q : Quantity) {c : Nat} (hlo : 328 ≤ c) (hhi : c ≤ 410) : sampleOf q c = some (span q).1 := by
  rw [sampleOf_of_accepted q hlo (by omega), ramp_of_nonpos _ _ (by omega), add_zero]

/-- An accepted code from 3686 on gives the upper end of the span. -/
theorem sampleOf_of_high (q : Quantity) {c : Nat} (hlo : 3686 ≤ c) (hhi : c ≤ 3768) : sampleOf q c = some (span q).2 := by
  rw [sampleOf_of_accepted q (by omega) hhi, ramp_of_ge _ (by omega) (by omega), add_sub_cancel]

/-- Settles O5: an accepted code is the ramp over the span, which is flat outside 410 to 3686. -/
theorem scalingFollowsTheBands : Obligations.ScalingFollowsTheBands := by
  unfold Obligations.ScalingFollowsTheBands
  intro q code
  refine ⟨(span q).1, (span q).2, ?temperatures, ?ratios, ?percents, fun h => sampleOf_of_rejected q (.inl h),
    fun hlo hhi => sampleOf_of_low q hlo (by omega), ?line, fun h => sampleOf_of_low q (by omega) (by omega),
    fun h => sampleOf_of_high q (by omega) (by omega), fun hlo hhi => sampleOf_of_high q (by omega) hhi,
    fun h => sampleOf_of_rejected q (.inr h)⟩
  case temperatures => rintro (rfl | rfl | rfl) <;> exact ⟨rfl, rfl⟩
  case ratios => rintro (rfl | rfl) <;> exact ⟨rfl, rfl⟩
  case percents => rintro (rfl | rfl | rfl | rfl) <;> exact ⟨rfl, rfl⟩
  case line =>
    intro hlo hhi
    have hspan := span_fst_lt_snd q
    have hmem := ramp_mem (c := (span q).2 - (span q).1) (d := 3276) (by omega) (by omega) (code.toNat - 410)
    have hfloor := ramp_floor ((span q).2 - (span q).1) (d := 3276) (x := code.toNat - 410) (by omega) (by omega) (by omega)
    refine ⟨_, sampleOf_of_accepted q (by omega) (by omega), by omega, by omega, ?_⟩
    rw [add_sub_cancel_left, mul_comm ((code.toNat : Int) - 410)]
    exact hfloor

/-! ### Rounding half away from zero (R26) -/

/-- A rounded quotient is within half a unit of the exact one, and at a half it is the one farther from zero. -/
theorem roundHalfAway_nearest (n : Int) {d : Nat} (hd : 0 < d) :
    2 * (n - d * roundHalfAway n d).natAbs ≤ d ∧
    (2 * (n - d * roundHalfAway n d).natAbs = d → n.natAbs < (d * roundHalfAway n d).natAbs) := by
  have hfloor : ∀ m : Int, 2 * (d * ((2 * m + d) / (2 * d))) ≤ 2 * m + d ∧ 2 * m + d < 2 * (d * ((2 * m + d) / (2 * d))) + 2 * d :=
    fun m => by
      have hpos : (0 : Int) < 2 * d := by omega
      rw [← mul_assoc]
      exact ⟨Int.mul_ediv_self_le hpos.ne', Int.lt_mul_ediv_self_add hpos⟩
  unfold roundHalfAway
  split_ifs with hn
  · have := hfloor n
    omega
  · have := hfloor (-n)
    rw [mul_neg]
    omega

/-! ### Enthalpy (R29) -/

/-- The N of R29, of inputs already clamped. -/
def enthalpyNumerator (t w : Int) : Int := 10060000 * t + 2501000 * w + 186 * w * t

/-- The enthalpy is N of the clamped inputs, divided by 1,000,000 and rounded. -/
theorem enthalpy_eq_round (T W : Int) :
    enthalpy T W = roundHalfAway (enthalpyNumerator (clampInt (-400) 600 T) (clampInt 0 3000 W)) 1000000 := rfl

/-- N rises with both inputs, so it lies between its values at the ends of their ranges. -/
theorem enthalpyNumerator_mem {t w : Int} (htlo : -400 ≤ t) (hthi : t ≤ 600) (hwlo : 0 ≤ w) (hwhi : w ≤ 3000) :
    -4024000000 ≤ enthalpyNumerator t w ∧ enthalpyNumerator t w ≤ 13873800000 := by
  have hlow : 0 ≤ w * (t + 400) := mul_nonneg hwlo (by omega)
  have hhigh : 0 ≤ w * (600 - t) := mul_nonneg hwlo (by omega)
  unfold enthalpyNumerator
  constructor <;> linarith

/-- The bounds of N, rounded, bound the enthalpy. -/
theorem enthalpy_mem (T W : Int) : -4024 ≤ enthalpy T W ∧ enthalpy T W ≤ 13874 := by
  obtain ⟨htlo, hthi⟩ := clampInt_mem T (show (-400 : Int) ≤ 600 by decide)
  obtain ⟨hwlo, hwhi⟩ := clampInt_mem W (show (0 : Int) ≤ 3000 by decide)
  have hN := enthalpyNumerator_mem htlo hthi hwlo hwhi
  obtain ⟨hnear, -⟩ := roundHalfAway_nearest (enthalpyNumerator (clampInt (-400) 600 T) (clampInt 0 3000 W))
    (d := 1000000) (by decide)
  rw [← enthalpy_eq_round] at hnear
  omega

/-! ### The height correction (R30) -/

/-- The product of R30: the lapse and the difference of the clamped heights. -/
def heightNumerator (lapse : Int) (h hp : Nat) : Int := lapse * (((min 600 h : Nat) : Int) - ((min 600 hp : Nat) : Int))

/-- The height correction is the product of R30, divided by 1000 and rounded. -/
theorem heightCorrection_eq_round (lapse : Int) (h hp : Nat) :
    heightCorrection lapse h hp = roundHalfAway (heightNumerator lapse h hp) 1000 := by
  rw [heightCorrection, heightNumerator, min_comm h, min_comm hp]

/-- With a lapse from −100 to 0 the product is at most 60000 and of the sign opposite to the height difference. -/
theorem heightNumerator_mem {lapse : Int} (h hp : Nat) (hlo : -100 ≤ lapse) (hhi : lapse ≤ 0) :
    -60000 ≤ heightNumerator lapse h hp ∧ heightNumerator lapse h hp ≤ 60000 ∧
    (hp ≤ h → heightNumerator lapse h hp ≤ 0) ∧ (h ≤ hp → 0 ≤ heightNumerator lapse h hp) := by
  have hxlo : -600 ≤ ((min 600 h : Nat) : Int) - ((min 600 hp : Nat) : Int) := by omega
  have hxhi : ((min 600 h : Nat) : Int) - ((min 600 hp : Nat) : Int) ≤ 600 := by omega
  exact ⟨by unfold heightNumerator; nlinarith only [hlo, hhi, hxlo, hxhi],
    by unfold heightNumerator; nlinarith only [hlo, hhi, hxlo, hxhi],
    fun hle => mul_nonpos_of_nonpos_of_nonneg hhi (by omega), fun hle => mul_nonneg_of_nonpos_of_nonpos hhi (by omega)⟩

/-- The bounds and the sign of the product, rounded, are those of the height correction. -/
theorem heightCorrection_mem {lapse : Int} (h hp : Nat) (hlo : -100 ≤ lapse) (hhi : lapse ≤ 0) :
    -60 ≤ heightCorrection lapse h hp ∧ heightCorrection lapse h hp ≤ 60 ∧
    (hp ≤ h → heightCorrection lapse h hp ≤ 0) ∧ (h ≤ hp → 0 ≤ heightCorrection lapse h hp) := by
  have hproduct := heightNumerator_mem h hp hlo hhi
  obtain ⟨hnear, -⟩ := roundHalfAway_nearest (heightNumerator lapse h hp) (d := 1000) (by decide)
  rw [← heightCorrection_eq_round] at hnear
  omega

/-- Without a lapse there is no correction. -/
theorem heightCorrection_zero (h hp : Nat) : heightCorrection 0 h hp = 0 := by
  simp [heightCorrection, roundHalfAway]

/-- Settles O6: both are `roundHalfAway` of a numerator, whose bounds and sign pass to the rounded quotient. -/
theorem enthalpyAndHeightCorrectionRound : Obligations.EnthalpyAndHeightCorrectionRound := by
  unfold Obligations.EnthalpyAndHeightCorrectionRound
  refine ⟨fun T W => ?enthalpy, by decide, by decide, fun lapse h hp tp hlo hhi => ?height⟩
  case enthalpy =>
    obtain ⟨hnear, hhalf⟩ := roundHalfAway_nearest (enthalpyNumerator (clampInt (-400) 600 T) (clampInt 0 3000 W))
      (d := 1000000) (by decide)
    rw [← enthalpy_eq_round] at hnear hhalf
    exact ⟨_, _, _, rfl, rfl, rfl, hnear, hhalf, enthalpy_mem T W⟩
  case height =>
    obtain ⟨hnear, hhalf⟩ := roundHalfAway_nearest (heightNumerator lapse h hp) (d := 1000) (by decide)
    rw [← heightCorrection_eq_round] at hnear hhalf
    obtain ⟨hdlo, hdhi, habove, hbelow⟩ := heightCorrection_mem h hp hlo hhi
    refine ⟨_, heightCorrection lapse h hp, rfl, hnear, hhalf, hdlo, hdhi, habove, hbelow, ?_, rfl⟩
    rintro rfl
    exact heightCorrection_zero h hp

/-! ### The derated WFC budget (R32) -/

/-- The WFC budget falls along the ramp from Cnom at H_on to 0 at H_off. -/
theorem wfcBudget_eq_ramp (cnom : Nat) {hOn hOff : Int} (hlt : hOn < hOff) (ho : Int) :
    (wfcBudget cnom hOn hOff (some ho) : Int) = ramp cnom (hOff - hOn) (hOff - ho) := by
  simp only [wfcBudget]
  split_ifs with hfull hnone
  · rw [ramp_of_ge _ (by omega) (by omega)]
  · rw [ramp_of_nonpos _ _ (by omega), Nat.cast_zero]
  · rw [ramp, clampInt_of_mem (by omega) (by omega), Int.natCast_ediv, Nat.cast_mul, Int.toNat_of_nonneg (by omega),
      Int.toNat_of_nonneg (by omega)]

/-- Settles O8: the budget of a valid reference is a ramp in H_off − Ho. -/
theorem wfcBudgetDerates : Obligations.WfcBudgetDerates := by
  unfold Obligations.WfcBudgetDerates
  refine ⟨fun p => ⟨rfl, rfl⟩, rfl, fun cnom hOn hOff hgap => ?_⟩
  have hramp := wfcBudget_eq_ramp cnom (show hOn < hOff by omega)
  have hle : ∀ ho, wfcBudget cnom hOn hOff (some ho) ≤ cnom := fun ho => by
    have := ramp_mem (Int.natCast_nonneg cnom) (show 0 < hOff - hOn by omega) (hOff - ho)
    have := hramp ho
    omega
  refine ⟨rfl, fun ho hfull => ?full, fun ho hnone => ?zero, fun ho hon hoff => ?line, hle, fun ho ho' h => ?falling, ?none⟩
  case full => simp [wfcBudget, hfull]
  case zero => simp [wfcBudget, hnone, show ¬ ho ≤ hOn by omega]
  case line =>
    refine ⟨_, rfl, ?_⟩
    rw [hramp]
    exact ramp_floor cnom (by omega) (by omega) (by omega)
  case falling =>
    have := ramp_mono (Int.natCast_nonneg cnom) (show 0 ≤ hOff - hOn by omega) (show hOff - ho' ≤ hOff - ho by omega)
    rw [← hramp, ← hramp] at this
    exact_mod_cast this
  case none =>
    rintro rfl (_ | ho)
    · rfl
    · exact Nat.le_zero.mp (hle ho)

/-! ### WFC request, valve command and speed targets (R35 to R37) -/

/-- The cooling recovery target rises along the ramp from Smin at 0 to 1000 at the speed range. -/
theorem coolingTarget_eq_ramp {smin : Nat} (hsmin : smin ≤ 1000) (sr : Nat) (x : Int) :
    (coolingTarget smin sr x : Int) = smin + ramp (1000 - smin) sr x := by
  obtain ⟨hclamp, -⟩ := clampInt_mem x (Int.natCast_nonneg sr)
  simp [coolingTarget, ramp, Nat.cast_sub hsmin, hclamp]

/-- A demand asks for at most the cap. -/
theorem wfcRequestOf_le {dc : Nat} (lc : Nat) (hdc : dc ≤ 1000) : wfcRequestOf lc dc ≤ lc :=
  Nat.div_le_of_le_mul (Nat.mul_le_mul_right lc hdc)

/-- A grant of the cap or more opens the valve fully. -/
theorem valveCommand_of_full {lc g : Nat} (hlc : 0 < lc) (hg : lc ≤ g) : valveCommand lc g = 1000 := by
  have hquot : 1000 ≤ g * 1000 / lc := (Nat.le_div_iff_mul_le hlc).mpr (by omega)
  rw [valveCommand, if_neg hlc.ne', min_eq_left hquot]

/-- Settles O10: request and valve by their quotients, the heating target by its maximum, the cooling target as a ramp. -/
theorem valveAndSpeedTargetsKeepTheirBounds : Obligations.ValveAndSpeedTargetsKeepTheirBounds := by
  unfold Obligations.ValveAndSpeedTargetsKeepTheirBounds
  refine ⟨fun lc dc hdc => ⟨rfl, wfcRequestOf_le lc hdc, Nat.mul_div_cancel_left lc (by decide)⟩, fun g => rfl,
    fun lc g hlc => ⟨if_neg hlc.ne', valveCommand_of_full hlc⟩,
    fun smin dh hsmin hdh => ⟨le_max_left _ _, max_le hsmin hdh, max_eq_left, max_eq_right⟩,
    fun smin sr x hsmin hsr => ?cooling, fun smin sr x y hsmin h => ?rising⟩
  case cooling =>
    have hramp := coolingTarget_eq_ramp hsmin sr x
    have hmem := ramp_mem (show (0 : Int) ≤ 1000 - smin by omega) (show (0 : Int) < sr by omega) x
    refine ⟨by omega, by omega, fun hx => ?_, fun hx => ?_, fun h0 hx => ?_⟩
    · rw [ramp_of_nonpos _ _ hx] at hramp
      omega
    · rw [ramp_of_ge _ (by omega) hx] at hramp
      omega
    · rw [hramp, add_sub_cancel_left]
      exact ramp_floor _ (by omega) h0 hx
  case rising =>
    have hrise := ramp_mono (show (0 : Int) ≤ 1000 - smin by omega) (Int.natCast_nonneg sr) h
    have hx := coolingTarget_eq_ramp hsmin sr x
    have hy := coolingTarget_eq_ramp hsmin sr y
    omega

end Sys2Proof.Machine
end

