-- ==== Sys2Proof/Proofs/Division.lean ====
section
/-! SUPPORT. The division of a budget (R103 to R106): what a pass and the equal division do to a list, and the invariant the passes keep. -/

namespace Sys2Proof.Machine

/-! ### Only shares change -/

/-- A field of an entry that the division does not touch. -/
def IgnoresShare (f : Participant → Nat) : Prop := ∀ p x, f { p with share := x } = f p

/-- A pass leaves such a field. -/
theorem map_passGives {f : Participant → Nat} (hf : IgnoresShare f) (n r : Nat) (ps : List Participant) :
    (passGives n r ps).map f = ps.map f := by
  rw [passGives, List.map_map]
  refine List.map_congr_left fun p _ => ?_
  dsimp only [Function.comp]
  split
  · exact hf p _
  · rfl

/-- The equal division leaves such a field. -/
theorem map_splitEqually {f : Participant → Nat} (hf : IgnoresShare f) (q k : Nat) (ps : List Participant) :
    (splitEqually q k ps).map f = ps.map f := by
  induction k, ps using splitEqually.induct with
  | case1 => rfl
  | case2 k p ps hopen ih => simp [splitEqually, hopen, hf p, ih]
  | case3 k p ps hset ih => simp [splitEqually, hset, ih]

/-- The passes leave such a field. -/
theorem map_passes {f : Participant → Nat} (hf : IgnoresShare f) (fuel r : Nat) (ps : List Participant) :
    (passes fuel r ps).map f = ps.map f := by
  induction fuel, r, ps using passes.induct with
  | case1 r ps => exact map_splitEqually hf _ _ ps
  | case2 fuel r ps hany ih => rw [passes, if_pos hany, ih, map_passGives hf]
  | case3 fuel r ps hany => rw [passes, if_neg hany, map_splitEqually hf]

/-- A division leaves such a field: addresses and requests stay as they are (R103 to R105). -/
theorem map_divide {f : Participant → Nat} (hf : IgnoresShare f) (budget : Nat) (ps : List Participant) :
    (divide budget ps).map f = ps.map f := by
  unfold divide
  split
  · simp [hf _]
  · exact map_passes hf _ _ ps

/-! ### The unsatisfied members -/

/-- What the unsatisfied members ask for together. -/
def openRequests : List Participant → Nat
  | [] => 0
  | p :: ps => (if p.share.isNone then p.request else 0) + openRequests ps

/-- At most every member is unsatisfied. -/
theorem unsatisfied_le_length (ps : List Participant) : unsatisfied ps ≤ ps.length := by
  induction ps with
  | nil => exact le_rfl
  | cons p ps ih =>
    simp only [unsatisfied, List.length_cons]
    split <;> omega

/-- Only an unsatisfied member has an open request. -/
theorem unsatisfied_pos {ps : List Participant} (h : 0 < openRequests ps) : 0 < unsatisfied ps := by
  induction ps with
  | nil => exact h
  | cons p ps ih =>
    simp only [openRequests, unsatisfied] at h ⊢
    split_ifs at h ⊢
    · omega
    · have := ih (by omega)
      omega

/-- Before the division every request is open, and nothing is given. -/
theorem openRequests_sumShares_of_undivided {ps : List Participant} (h : ∀ p ∈ ps, p.share = none) :
    openRequests ps = sumRequests ps ∧ sumShares ps = 0 := by
  induction ps with
  | nil => exact ⟨rfl, rfl⟩
  | cons p ps ih =>
    obtain ⟨hp, hps⟩ := List.forall_mem_cons.mp h
    obtain ⟨hopen, hgiven⟩ := ih hps
    simp [openRequests, sumRequests, sumShares, hp, hopen, hgiven]

/-! ### A pass (R104) -/

/-- The test of R104. -/
theorem passSatisfies_iff {n r : Nat} {p : Participant} :
    passSatisfies n r p = true ↔ p.share = none ∧ p.request * n ≤ r := by
  simp [passSatisfies]

/-- A pass moves what it spends from the open requests to the shares. -/
theorem passGives_moves (n r : Nat) (ps : List Participant) :
    openRequests (passGives n r ps) + passSpends n r ps = openRequests ps ∧
    sumShares (passGives n r ps) = sumShares ps + passSpends n r ps := by
  induction ps with
  | nil => exact ⟨rfl, rfl⟩
  | cons p ps ih =>
    obtain ⟨hopen, hgiven⟩ := ih
    rw [passGives] at hopen hgiven
    simp only [passGives, List.map_cons, openRequests, sumShares, passSpends]
    split
    · next hsat =>
      obtain ⟨hnone, -⟩ := passSatisfies_iff.mp hsat
      simp [hnone]
      omega
    · omega

/-- The members a pass satisfies are no longer unsatisfied. -/
theorem unsatisfied_passGives (n r : Nat) (ps : List Participant) :
    unsatisfied (passGives n r ps) + ps.countP (passSatisfies n r) = unsatisfied ps := by
  induction ps with
  | nil => rfl
  | cons p ps ih =>
    rw [passGives] at ih
    simp only [passGives, List.map_cons, unsatisfied, List.countP_cons]
    split
    · next hsat =>
      obtain ⟨hnone, -⟩ := passSatisfies_iff.mp hsat
      simp [hnone]
      omega
    · omega

/-- Each member satisfied takes at most r / n: over n parts, a pass spends at most r for each unsatisfied member. -/
theorem passSpends_mul_le (n r : Nat) (ps : List Participant) : passSpends n r ps * n ≤ r * unsatisfied ps := by
  induction ps with
  | nil => simp [passSpends]
  | cons p ps ih =>
    simp only [passSpends, unsatisfied, add_mul, mul_add]
    refine add_le_add ?_ ih
    split
    · next hsat =>
      obtain ⟨hnone, hle⟩ := passSatisfies_iff.mp hsat
      simpa [hnone] using hle
    · simp

/-- A pass never spends more than remains (R104). -/
theorem passSpends_le {r : Nat} {ps : List Participant} (hpos : 0 < unsatisfied ps) :
    passSpends (unsatisfied ps) r ps ≤ r :=
  Nat.le_of_mul_le_mul_right (passSpends_mul_le _ r ps) hpos

/-- An entry after a pass stood before it, or has its request in full. -/
theorem mem_passGives {n r : Nat} {ps : List Participant} {p : Participant} (h : p ∈ passGives n r ps) :
    p ∈ ps ∨ p.share = some p.request := by
  obtain ⟨p₀, hmem, rfl⟩ := List.mem_map.mp h
  split
  · exact .inr rfl
  · exact .inl hmem

/-! ### The equal division (R105) -/

/-- An entry after the equal division had its share before it, or was unsatisfied and has at most one unit above q. -/
theorem mem_splitEqually {q k : Nat} {ps : List Participant} {p : Participant} (h : p ∈ splitEqually q k ps) :
    (p ∈ ps ∧ p.share.isSome) ∨ ∃ p₀ ∈ ps, p₀.share = none ∧ ∃ x ≤ q + 1, p = { p₀ with share := some x } := by
  induction k, ps using splitEqually.induct with
  | case1 => cases h
  | case2 k p₀ ps hopen ih =>
    rw [splitEqually, if_pos hopen] at h
    rcases List.mem_cons.mp h with rfl | h
    · exact .inr ⟨p₀, List.mem_cons_self, Option.isNone_iff_eq_none.mp hopen, _, by omega, rfl⟩
    · exact (ih h).imp (And.imp_left (List.mem_cons_of_mem _)) fun ⟨p₁, hmem, hp⟩ => ⟨p₁, List.mem_cons_of_mem _ hmem, hp⟩
  | case3 k p₀ ps hset ih =>
    rw [splitEqually, if_neg hset] at h
    rcases List.mem_cons.mp h with rfl | h
    · exact .inl ⟨List.mem_cons_self, by simpa [Option.isSome_iff_ne_none] using hset⟩
    · exact (ih h).imp (And.imp_left (List.mem_cons_of_mem _)) fun ⟨p₁, hmem, hp⟩ => ⟨p₁, List.mem_cons_of_mem _ hmem, hp⟩

/-- The equal division gives q to each unsatisfied member, and one unit more to k of them, or to all when they are fewer. -/
theorem sumShares_splitEqually (q k : Nat) (ps : List Participant) :
    sumShares (splitEqually q k ps) = sumShares ps + q * unsatisfied ps + min k (unsatisfied ps) := by
  induction k, ps using splitEqually.induct with
  | case1 k => simp [splitEqually, sumShares, unsatisfied]
  | case2 k p ps hopen ih =>
    have hnone := Option.isNone_iff_eq_none.mp hopen
    simp only [splitEqually, sumShares, unsatisfied, hnone, Option.isNone_none, if_true, ih, Option.getD_some,
      Option.getD_none, mul_add]
    omega
  | case3 k p ps hset ih =>
    simp only [splitEqually, sumShares, unsatisfied, if_neg hset, ih, zero_add]
    omega

/-- The quotient and the remainder of r give out exactly r (R106). -/
theorem sumShares_splitEqually_quotient (r : Nat) {ps : List Participant} (hpos : 0 < unsatisfied ps) :
    sumShares (splitEqually (r / unsatisfied ps) (r % unsatisfied ps) ps) = r + sumShares ps := by
  have hrem : r % unsatisfied ps < unsatisfied ps := Nat.mod_lt r hpos
  have hquot : r / unsatisfied ps * unsatisfied ps + r % unsatisfied ps = r := Nat.div_add_mod' r _
  rw [sumShares_splitEqually, min_eq_left hrem.le]
  omega

/-! ### The invariant of the passes (R104, R106) -/

/-- A budget part way through its division: no share above its request, less remaining than is still asked for, and what remains and what is
given together the budget. -/
structure Dividing (budget r : Nat) (ps : List Participant) : Prop where
  capped : ∀ p ∈ ps, ∀ x, p.share = some x → x ≤ p.request
  short : r < openRequests ps
  total : r + sumShares ps = budget

/-- While more is asked for than remains, a member is unsatisfied (R104). -/
theorem Dividing.unsatisfied_pos {budget r : Nat} {ps : List Participant} (h : Dividing budget r ps) : 0 < unsatisfied ps :=
  Machine.unsatisfied_pos (Nat.zero_lt_of_lt h.short)

/-- A division over the budget begins with the invariant. -/
theorem Dividing.start {budget : Nat} {ps : List Participant} (hnone : ∀ p ∈ ps, p.share = none)
    (hover : budget < sumRequests ps) : Dividing budget budget ps := by
  obtain ⟨hopen, hgiven⟩ := openRequests_sumShares_of_undivided hnone
  exact ⟨fun p hp x hx => by simp [hnone p hp] at hx, by rwa [hopen], by rw [hgiven, add_zero]⟩

/-- A pass keeps the invariant. -/
theorem Dividing.pass {budget r : Nat} {ps : List Participant} (h : Dividing budget r ps) :
    Dividing budget (r - passSpends (unsatisfied ps) r ps) (passGives (unsatisfied ps) r ps) := by
  obtain ⟨hopen, hgiven⟩ := passGives_moves (unsatisfied ps) r ps
  have hspend := passSpends_le (r := r) h.unsatisfied_pos
  have hshort := h.short
  have htotal := h.total
  refine ⟨fun p hp x hx => ?_, by omega, by omega⟩
  rcases mem_passGives hp with hmem | hfull
  · exact h.capped p hmem x hx
  · exact (Option.some.inj (hx.symm.trans hfull)).le

/-- The passes end in the equal division of a state of the invariant in which every unsatisfied member asks more than its part. The fuel suffices,
since each pass before the last satisfies a member. -/
theorem Dividing.passes_eq {budget fuel r : Nat} {ps : List Participant} (h : Dividing budget r ps)
    (hfuel : unsatisfied ps ≤ fuel) :
    ∃ r' ps', Dividing budget r' ps' ∧ (∀ p ∈ ps', p.share = none → r' < p.request * unsatisfied ps') ∧
      passes fuel r ps = splitEqually (r' / unsatisfied ps') (r' % unsatisfied ps') ps' := by
  induction fuel, r, ps using passes.induct with
  | case1 r ps => exact absurd h.unsatisfied_pos (by omega)
  | case2 fuel r ps hany ih =>
    have hsatisfied : 0 < ps.countP (passSatisfies (unsatisfied ps) r) := by
      simpa [List.countP_pos_iff] using hany
    have hfewer := unsatisfied_passGives (unsatisfied ps) r ps
    rw [passes, if_pos hany]
    exact ih h.pass (by omega)
  | case3 fuel r ps hany =>
    refine ⟨r, ps, h, fun p hp hnone => ?_, by rw [passes, if_neg hany]⟩
    by_contra hle
    exact hany (List.any_eq_true.mpr ⟨p, hp, passSatisfies_iff.mpr ⟨hnone, by omega⟩⟩)

/-- The passes give every member a share of at most its request, and give out exactly the budget (R106). -/
theorem Dividing.passes_share {budget fuel r : Nat} {ps : List Participant} (h : Dividing budget r ps)
    (hfuel : unsatisfied ps ≤ fuel) :
    (∀ p ∈ passes fuel r ps, ∃ x, p.share = some x ∧ x ≤ p.request) ∧ sumShares (passes fuel r ps) = budget := by
  obtain ⟨r', ps', hdiv, hmore, heq⟩ := h.passes_eq hfuel
  rw [heq, sumShares_splitEqually_quotient r' hdiv.unsatisfied_pos]
  refine ⟨fun p hp => ?_, hdiv.total⟩
  rcases mem_splitEqually hp with ⟨hmem, hsome⟩ | ⟨p₀, hmem, hnone, x, hx, rfl⟩
  · obtain ⟨x, hx⟩ := Option.isSome_iff_exists.mp hsome
    exact ⟨x, hx, hdiv.capped p hmem x hx⟩
  · have hquot : r' / unsatisfied ps' < p₀.request :=
      (Nat.div_lt_iff_lt_mul hdiv.unsatisfied_pos).mpr (hmore p₀ hmem hnone)
    exact ⟨x, rfl, by dsimp only; omega⟩

/-! ### The division -/

/-- Within the budget every share is the request (R103). -/
theorem divide_within {budget : Nat} {ps : List Participant} (h : sumRequests ps ≤ budget) :
    (∀ p ∈ divide budget ps, p.share = some p.request) ∧ sumShares (divide budget ps) = sumRequests ps := by
  rw [divide, if_pos h]
  refine ⟨fun p hp => ?_, ?_⟩
  · obtain ⟨p₀, -, rfl⟩ := List.mem_map.mp hp
    rfl
  · clear h
    induction ps with
    | nil => rfl
    | cons p ps ih => simp [sumShares, sumRequests, ih]

/-- Over the budget every share is at most the request, and exactly the budget is given out (R104 to R106). -/
theorem divide_over {budget : Nat} {ps : List Participant} (hnone : ∀ p ∈ ps, p.share = none)
    (h : budget < sumRequests ps) :
    (∀ p ∈ divide budget ps, ∃ x, p.share = some x ∧ x ≤ p.request) ∧ sumShares (divide budget ps) = budget := by
  rw [divide, if_neg (by omega)]
  exact (Dividing.start hnone h).passes_share (unsatisfied_le_length ps)

/-- Settles O11, by whether the requests fit the budget; over it, by the invariant of the passes. -/
theorem divisionStaysWithinTheBudget : Obligations.DivisionStaysWithinTheBudget := by
  unfold Obligations.DivisionStaysWithinTheBudget
  intro budget ps hnone
  refine ⟨map_divide (fun _ _ => rfl) budget ps, map_divide (fun _ _ => rfl) budget ps, ?_⟩
  by_cases hfit : sumRequests ps ≤ budget
  · obtain ⟨hfull, hsum⟩ := divide_within hfit
    exact ⟨fun p hp => ⟨_, hfull p hp, le_rfl⟩, fun _ => hfull, fun hover => absurd hfit (by omega), by omega⟩
  · obtain ⟨hshare, hsum⟩ := divide_over hnone (by omega : budget < sumRequests ps)
    exact ⟨hshare, fun h => absurd h hfit, fun _ => hsum, hsum.le⟩

end Sys2Proof.Machine
end


-- ==== Sys2Proof/Proofs/Moves.lean ====
section
/-! SUPPORT. What a command can do, said once: every command is a sequence of the moves below. An invariant needs to be shown of each move. -/

namespace Sys2Proof.Machine

/-! ### Notes: what no invariant reads -/

/-- The state with the notes of another: counts, timers and records of the decision that no invariant reads. -/
def State.noting (s n : State) : State :=
  { s with
    startUp := { s.startUp with
      configTimer := n.startUp.configTimer, listenTimer := n.startUp.listenTimer, ownCount := n.startUp.ownCount
      restartPending := n.startUp.restartPending }
    scanner := { n.scanner with windows := s.scanner.windows }
    rotation := { n.rotation with gate := s.rotation.gate }
    engine := { s.engine with
      dwell := n.engine.dwell, regime := n.engine.regime, candidate := n.engine.candidate
      fallback := n.engine.fallback, target := n.engine.target, forceBypass := n.engine.forceBypass }
    output := { s.output with
      bypass := { n.output.bypass with command := s.output.bypass.command, outcome := s.output.bypass.outcome }
      outdoor := { n.output.outdoor with command := s.output.outdoor.command, outcome := s.output.outdoor.outcome } }
    bus := { s.bus with
      remnant := n.bus.remnant, sequence := n.bus.sequence, lastHeard := n.bus.lastHeard, heard := n.bus.heard
      clashTimer := n.bus.clashTimer }
    freeDraws := n.freeDraws }

/-- Each counter stays or is counted up once. -/
structure Counters.Counts (c c' : Counters) : Prop where
  crcErrors : c'.crcErrors = c.crcErrors ∨ c'.crcErrors = bump c.crcErrors
  framesAbandoned : c'.framesAbandoned = c.framesAbandoned ∨ c'.framesAbandoned = bump c.framesAbandoned
  contentionsLost : c'.contentionsLost = c.contentionsLost ∨ c'.contentionsLost = bump c.contentionsLost
  seqGaps : c'.seqGaps = c.seqGaps ∨ c'.seqGaps = bump c.seqGaps
  tableRefusals : c'.tableRefusals = c.tableRefusals ∨ c'.tableRefusals = bump c.tableRefusals
  queriesDropped : c'.queriesDropped = c.queriesDropped ∨ c'.queriesDropped = bump c.queriesDropped
  sampleRejects : c'.sampleRejects = c.sampleRejects ∨ c'.sampleRejects = bump c.sampleRejects
  scanOverruns : c'.scanOverruns = c.scanOverruns ∨ c'.scanOverruns = bump c.scanOverruns

/-- The commands that may set the counters and the sticky flags to 0: CLRC, and what spells one (R187). -/
def mayClear : Instr → Prop
  | .clrc _ _ => True
  | .unknown _ kind _ => kind.toNat = 4
  | .announce f _ | .intent f | .replyReceived f | .queryForOtherStation f =>
    frameKindOf (byteAt f 1 / 16) = some .query
  | _ => False

/-! ### The moves -/

/-- One of the moves a command is made of, with the condition under which the command makes it. -/
inductive Move (c : Instr) (s : State) : State → Prop where
  | note (n : State) : Move c s (s.noting n)
  | count (k : Counters) (h : s.counters.Counts k) : Move c s { s with counters := k }
  | clear (h : mayClear c) :
      Move c s { s with counters := zeroCounters, responder := { s.responder with sticky := noFaults } }
  | sticky (f : StationFault) : Move c s (setSticky f s)
  | coldStart (hi lo : Ratio) (record : List Byte) (h : c = .coldStart hi lo record) : Move c s (coldStart hi lo record s)
  | configEnds (h : s.startUp.lifecycle = .config) : Move c s (configEnds s)
  | warmStart : Move c s (warmStart s)
  | accepted (q : Quantity) (code : Nat) (v : Int) (h : sampleOf q code = some v) :
      Move c s (putWindow q ((s.scanner.windows.get q).accept v) s)
  | rejected (q : Quantity) : Move c s (putWindow q (s.scanner.windows.get q).reject s)
  | judgeOwnSensor : Move c s (judgeOwnSensor s)
  | recompute : Move c s (recompute s)
  | holdExpires (h : s.reconciler.hold.isSome = true) : Move c s (holdExpires s)
  | gate (n : Nat) (h : s.rotation.gate.isSome = true) :
      Move c s { s with rotation := { s.rotation with gate := some n } }
  | declareStall (h : s.rotation.gate.isSome = true) : Move c s (declareStall s)
  | purges (h : s.output.wheel = .stopped) (h' : s.output.idle.isSome = true) : Move c s (moveWheel .purging s)
  | stops (h : s.output.wheel = .purging ∨ s.output.wheel = .stalled) : Move c s (moveWheel .stopped s)
  | outcome (d : Damper) (o : Polarity) : Move c s (setOutcome d o s)
  | decisionTimer (n : Nat) (h : s.engine.decisionTimer.isSome = true) :
      Move c s { s with engine := { s.engine with decisionTimer := some n } }
  | stageAdopt (order : DecisionOrder) (h : c = .decision order) : Move c s (stageAdopt s)
  | stageRequests (order : DecisionOrder) (h : c = .decision order) : Move c s (stageRequests s)
  | cancelPending : Move c s (cancelPending s)
  | startPending (k : ChangeKind) (h : s.engine.decisionTimer.isSome = true) : Move c s (startPending k s)
  | applyTarget (m : Mode) (hm : m = .bypass ∨ m = .recover ∧ s.output.wheel ≠ .stalled)
      (h : s.engine.decisionTimer.isSome = true) : Move c s (applyMode m s)
  | stageSpeed (entered : Bool) (h : s.engine.decisionTimer.isSome = true) : Move c s (stageSpeed entered s)
  | allocate (b : Budget) : Move c s (allocate b s)
  | forcedChange : Move c s (forcedChange s)
  | slotExpires (p : Pending) (h : s.stagger.pending = some p) : Move c s (slotExpires p s)
  | stagger (g : Stagger) (hp : g.pending.isSome = true → s.stagger.pending.isSome = true)
      (hi : g.intents = s.stagger.intents ∨ g.intents = [] ∨ ∃ k, g.intents = takeKey k s.stagger.intents) :
      Move c s { s with stagger := g }
  | accept (order : ReportOrder) (old : PeerRecord) (source gaps : Nat) (a : Announcement)
      (h : findRecord source s.table.records = some old) : Move c s (acceptAnnounce order old gaps a s)
  | insert (order : ReportOrder) (evicted : Option PeerRecord) (source : Nat) (a : Announcement) (h0 : source ≠ 0)
      (h64 : source < 64) (hown : source ≠ s.startUp.address ∨ s.startUp.lifecycle = .service)
      (hnone : findRecord source s.table.records = none)
      (hroom : evicted = none ∧ s.table.records.length < 32 ∨ ∃ v ∈ s.table.records, evicted = some v) :
      Move c s (insertNew order evicted (recordFrom s.cfg source 0 a) s)
  | coast (order : ReportOrder) (r : PeerRecord) (source : Nat) (h : findRecord source s.table.records = some r)
      (hr : r.state = .live) : Move c s (coast order r s)
  | lose (r : PeerRecord) (source : Nat) (h : findRecord source s.table.records = some r)
      (hr : r.state = .coasting) : Move c s (lose r s)
  | free (order : ReportOrder) (r : PeerRecord) (source : Nat) (h : findRecord source s.table.records = some r)
      (hr : r.state = .lost) : Move c s (free order r s)
  | phaseEnds (t : PolarityTest) (h : s.output.test = some t) (h' : s.startUp.lifecycle = .commission) :
      Move c s (phaseEnds t s)
  | listenEnds (h : s.startUp.lifecycle = .listen) : Move c s (listenEnds s)
  | enterActive (h : s.startUp.lifecycle = .joining) : Move c s (enterActive s)
  | enterIsolated (h : s.startUp.lifecycle = .joining ∨ s.startUp.lifecycle = .active) : Move c s (enterIsolated s)
  | rejoin (h : s.startUp.lifecycle = .isolated) : Move c s (rejoin s)
  | judgeClash : Move c s (judgeClash s)
  | clashEnds : Move c s (clashEnds s)
  | offDelayEnds (h : fanActive s = true) (hs : s.fan.suspended = false) (hf : s.fan.state = .offDelay) :
      Move c s { s with fan := { s.fan with state := .off, offDelay := none, reliefRun := false } }
  | stuck : Move c s (setStuck true s)
  | lineIdles (hq : s.bus.transmitter = .quiet) :
      Move c s (beginFrame (receiverIdles (if s.bus.stuck then setStuck false s else s)))
  | receiver (r : Receiver) (hq : s.bus.transmitter = .quiet) (hr : r ≠ .idle) :
      Move c s { s with bus := { s.bus with receiver := r } }
  | loses : Move c s { s with bus := { s.bus with transmitter := .quiet, receiver := .collecting, onAir := none } }
  | endTransmission (r : Receiver) (remnant : Bool) (t : Transmission) (hr : r ≠ .idle) (h : onLine s = some t) :
      Move c s (endTransmission r remnant t s)
  | announceTimer (n : Nat) (h : s.bus.announceTimer.isSome = true) :
      Move c s { s with bus := { s.bus with announceTimer := some n } }
  | placeAnnounce (f : Frame) (h : s.bus.announceTimer.isSome = true) : Move c s (placeAnnounce f s)
  | placeIntent (f : Frame) (h : s.stagger.pending.isSome = true) : Move c s (placeIntent f s)
  | placeReply (f : Frame) (h : s.startUp.lifecycle.answers = true) (hl : s.bus.replySlots.length < 2) :
      Move c s (placeReply f s)

/-- A sequence of moves. -/
def Moves (c : Instr) : State → State → Prop := Relation.ReflTransGen (Move c)

theorem Moves.refl {c : Instr} {s : State} : Moves c s s := Relation.ReflTransGen.refl

theorem Moves.single {c : Instr} {s t : State} (h : Move c s t) : Moves c s t := Relation.ReflTransGen.single h

theorem Moves.trans {c : Instr} {s t u : State} (h : Moves c s t) (h' : Moves c t u) : Moves c s u :=
  Relation.ReflTransGen.trans h h'

/-- The moves so far and one more. -/
theorem Moves.then {c : Instr} {s t u : State} (h : Moves c s t) (hm : Move c t u) : Moves c s u :=
  Relation.ReflTransGen.tail h hm

/-- What every move keeps, a sequence of them keeps. -/
theorem Moves.keeps {c : Instr} {I : State → Prop} (hmove : ∀ s t, Move c s t → I s → I t) {s t : State}
    (h : Moves c s t) (hs : I s) : I t := by
  induction h with
  | refl => exact hs
  | tail _ hm ih => exact hmove _ _ hm ih

/-- A state that differs from another in its notes alone is one move from it. -/
theorem Moves.note {c : Instr} {s t : State} (h : t = s.noting t) : Moves c s t := by
  rw [h]; exact .single (.note t)

/-- The moves so far and a note. -/
theorem Moves.thenNote {c : Instr} {s t u : State} (h : Moves c s t) (hu : u = t.noting u) : Moves c s u :=
  h.trans (.note hu)

/-- Moves on under a condition, or nothing. -/
theorem Moves.ite {c : Instr} {p : Prop} [Decidable p] {s t u : State} (ht : p → Moves c s t) (hu : ¬p → Moves c s u) :
    Moves c s (if p then t else u) := by
  split
  · exact ht ‹p›
  · exact hu ‹¬p›

end Sys2Proof.Machine
end


-- ==== Sys2Proof/Proofs/ExecMoves.lean ====
section
/-! SUPPORT. Every command is a sequence of moves: one lemma for each operation a command is built of, in the order of the model's files. -/

namespace Sys2Proof.Machine

variable {c : Instr} {s u : State}

/-- A counter counted up is a move. -/
theorem moves_countCrcError : Moves c s (countCrcError s) :=
  .single (.count _ ⟨.inr rfl, .inl rfl, .inl rfl, .inl rfl, .inl rfl, .inl rfl, .inl rfl, .inl rfl⟩)
theorem moves_countAbandoned : Moves c s (countAbandoned s) :=
  .single (.count _ ⟨.inl rfl, .inr rfl, .inl rfl, .inl rfl, .inl rfl, .inl rfl, .inl rfl, .inl rfl⟩)
theorem moves_countContentionLost : Moves c s (countContentionLost s) :=
  .single (.count _ ⟨.inl rfl, .inl rfl, .inr rfl, .inl rfl, .inl rfl, .inl rfl, .inl rfl, .inl rfl⟩)
theorem moves_countSeqGap : Moves c s (countSeqGap s) :=
  .single (.count _ ⟨.inl rfl, .inl rfl, .inl rfl, .inr rfl, .inl rfl, .inl rfl, .inl rfl, .inl rfl⟩)
theorem moves_countRefusal : Moves c s (countRefusal s) :=
  .single (.count _ ⟨.inl rfl, .inl rfl, .inl rfl, .inl rfl, .inr rfl, .inl rfl, .inl rfl, .inl rfl⟩)
theorem moves_countDropped : Moves c s (countDropped s) :=
  .single (.count _ ⟨.inl rfl, .inl rfl, .inl rfl, .inl rfl, .inl rfl, .inr rfl, .inl rfl, .inl rfl⟩)
theorem moves_countReject : Moves c s (countReject s) :=
  .single (.count _ ⟨.inl rfl, .inl rfl, .inl rfl, .inl rfl, .inl rfl, .inl rfl, .inr rfl, .inl rfl⟩)
theorem moves_countOverrun : Moves c s (countOverrun s) :=
  .single (.count _ ⟨.inl rfl, .inl rfl, .inl rfl, .inl rfl, .inl rfl, .inl rfl, .inl rfl, .inr rfl⟩)

/-! ### Scanner, rotation counter, reconciler -/

theorem moves_strobe : Moves c s (strobe s) := by
  unfold strobe
  split
  · exact moves_countOverrun
  · exact .note rfl

theorem moves_scanTimerExpires (scanIn : Bool) : Moves c s (scanTimerExpires scanIn s) := by
  have htimer : Moves c s { s with scanner := { s.scanner with scanTimer := some s.cfg.scanPeriod } } := .note rfl
  unfold scanTimerExpires
  dsimp only
  split
  · exact htimer.trans moves_strobe
  · exact (htimer.thenNote rfl).trans moves_strobe
  · split
    · exact htimer.trans moves_strobe
    · exact htimer
  · exact htimer

theorem moves_deliver (q : Quantity) (code : Nat) : Moves c s (deliver q code s) := by
  unfold deliver
  refine .ite (fun _ => .refl) fun _ => ?_
  split
  · rename_i v hv
    have hput := (Moves.single (Move.accepted (c := c) (s := s) q code v hv))
    unfold deliverAccepted
    cases q
    case outT => exact (hput.then .judgeOwnSensor).then .recompute
    case outW => exact hput.then .recompute
    all_goals exact hput
  · have hput : Moves c s (putWindow q (s.scanner.windows.get q).reject (countReject s)) :=
      moves_countReject.then (.rejected q)
    exact .ite (fun _ => hput.then .recompute) fun _ => hput

theorem moves_conversionCompletes (code : Nat) (f : ScanInFlight) : Moves c s (conversionCompletes code f s) := by
  have hnext : Moves c s
      { s with scanner := { s.scanner with scan := nextConversion s.cfg.scanList.length f.delivered } } := .note rfl
  unfold conversionCompletes
  dsimp only
  split
  · exact hnext.trans (moves_deliver _ _)
  · exact hnext

theorem moves_gateExpires (h : s.rotation.gate.isSome = true) : Moves c s (gateExpires s) := by
  unfold gateExpires
  refine .ite (fun _ => (Moves.single (Move.declareStall h))) fun _ => ?_
  exact (Moves.single (Move.gate (secs s.cfg.gateWindow) h)).thenNote rfl

/-! ### The decision -/

theorem moves_setMismatches (d : Damper) (n : Nat) : Moves c s (setMismatches d n s) := by
  cases d <;> exact .note rfl

theorem moves_applyJudgement (d : Damper) (j : Option Bool) : Moves c s (applyJudgement d j s) := by
  unfold applyJudgement
  split
  · exact .refl
  · exact moves_setMismatches d 0
  · exact .ite (fun _ => (moves_setMismatches d 0).then (.outcome d .fault)) fun _ => moves_setMismatches d _

theorem moves_applyJudgements (judged : State) : Moves c s (applyJudgements judged s) :=
  (moves_applyJudgement _ _).trans (moves_applyJudgement _ _)

theorem moves_stageTarget (h : s.engine.decisionTimer.isSome = true)
    (hstalled : s.engine.target = .recover → s.output.wheel ≠ .stalled) : Moves c s (stageTarget s) := by
  unfold stageTarget
  refine .ite (fun _ => (Moves.single (Move.cancelPending))) fun _ => .ite (fun _ => .refl) fun _ => ?_
  split
  · unfold handHeavy
    split
    · exact .ite (fun _ => .refl) fun _ => (Moves.single (Move.startPending _ h))
    · exact (Moves.single (Move.startPending _ h))
  · rename_i hheavy
    refine ((Moves.single .cancelPending).thenNote rfl).then (.applyTarget _ ?_ (by simpa using h))
    cases htarget : s.engine.target with
    | bypass => exact .inl rfl
    | recover => exact .inr ⟨rfl, by simpa using hstalled htarget⟩
    | economize => simp [heavyKind, htarget] at hheavy

/-- RECOVER is no target while the wheel is STALLED (R11). -/
theorem targetNow_recover (h : targetNow s = .recover) : s.output.wheel ≠ .stalled := by
  intro hw
  unfold targetNow at h
  dsimp only at h
  split_ifs at h <;> simp_all

theorem moves_decisionStages (order : DecisionOrder) (hc : c = .decision order) (h : s.engine.decisionTimer.isSome = true) :
    Moves c s (decisionStages s) := by
  have hdwell : Moves c s (stageDwell s) := .note rfl
  have hadopt := hdwell.then (.stageAdopt order hc)
  have hcandidate : Moves c s (stageCandidate (stageRegime (stageAdopt (stageDwell s)))) :=
    (hadopt.thenNote rfl).thenNote rfl
  have hrequests := hcandidate.then (.stageRequests order hc)
  have hready : Moves c s (stageAvailability (stageRequests (stageCandidate (stageRegime (stageAdopt (stageDwell s)))))) :=
    hrequests.thenNote rfl
  have htarget := hready.trans (moves_stageTarget (by simpa using h)
    (fun hrecover => by simpa using targetNow_recover hrecover))
  exact htarget.then (.stageSpeed _ (by simpa using h))

theorem moves_allocateChanged (before : Engine) : Moves c s (allocateChanged before s) := by
  unfold allocateChanged
  dsimp only
  have hrelief : Moves c s (if s.engine.reliefRequest = before.reliefRequest then s else allocate .relief s) :=
    .ite (fun _ => .refl) fun _ => (Moves.single (Move.allocate .relief))
  exact .ite (fun _ => hrelief) fun _ => hrelief.then (.allocate .wfc)

theorem moves_decisionExpires (order : DecisionOrder) (hc : c = .decision order) (h : s.engine.decisionTimer.isSome = true) :
    Moves c s (decisionExpires order s) := by
  have htimer := (Moves.single (Move.decisionTimer (c := c) (secs s.cfg.decisionPeriod) h))
  have hdecide : ∀ t : State, t.engine.decisionTimer.isSome = true → Moves c t (decide_ t) := fun t ht =>
    (moves_decisionStages order hc ht).trans (moves_allocateChanged _)
  unfold decisionExpires
  dsimp only
  split
  · exact (htimer.trans (moves_applyJudgements _)).trans (hdecide _ (by simp))
  · exact (htimer.trans (hdecide _ rfl)).trans (moves_applyJudgements _)

/-! ### The peer table -/

theorem moves_knownAnnounce (order : ReportOrder) (r : PeerRecord) (source : Nat) (a : Announcement)
    (h : findRecord source s.table.records = some r) : Moves c s (knownAnnounce order r a s) := by
  have haccept := (Moves.single (Move.accept (c := c) order r source r.gapCount a h))
  unfold knownAnnounce
  refine .ite (fun _ => haccept) fun _ => .ite (fun _ => .refl) fun _ => .ite (fun _ => haccept) fun _ => ?_
  exact moves_countSeqGap.then (.accept order r source _ a h)

/-- A choice among a list is of the list. -/
theorem preferred_mem {choose : PeerRecord → PeerRecord → PeerRecord} (hchoose : ∀ a b, choose a b = a ∨ choose a b = b)
    {l : List PeerRecord} {r : PeerRecord} (h : preferred choose l = some r) : r ∈ l := by
  induction l generalizing r with
  | nil => cases h
  | cons x xs ih =>
    unfold preferred at h
    split at h
    · rename_i y hy
      cases h
      rcases hchoose x y with hx | hx <;> rw [hx]
      · exact List.mem_cons_self
      · exact List.mem_cons_of_mem _ (ih hy)
    · cases h
      exact List.mem_cons_self

theorem laterSilence_or (a b : PeerRecord) : laterSilence a b = a ∨ laterSilence a b = b := by
  unfold laterSilence; split <;> simp

theorem farther_or (n : Nat) (a b : PeerRecord) : farther n a b = a ∨ farther n a b = b := by
  unfold farther; dsimp only; split <;> simp

/-- The record evicted is one of the table (R81). -/
theorem victim_mem {n : Nat} {l : List PeerRecord} {r : PeerRecord} (h : victim n l = some r) : r ∈ l := by
  unfold victim at h
  split at h
  · cases h
    exact List.mem_of_mem_filter (preferred_mem laterSilence_or ‹_›)
  · exact List.mem_of_mem_filter (preferred_mem (farther_or n) h)

theorem moves_takeAnnounce (order : ReportOrder) (source : Nat) (a : Announcement) (h64 : source < 64)
    (hown : source ≠ s.startUp.address ∨ s.startUp.lifecycle = .config ∨ s.startUp.lifecycle = .service) :
    Moves c s (takeAnnounce order source a s) := by
  unfold takeAnnounce
  refine .ite (fun _ => .refl) fun htaken => ?_
  simp only [not_or] at htaken
  obtain ⟨h0, hconfig, -⟩ := htaken
  replace hown : source ≠ s.startUp.address ∨ s.startUp.lifecycle = .service := by simpa [hconfig] using hown
  split
  · exact moves_knownAnnounce order _ source a ‹_›
  · rename_i hnone
    unfold newAnnounce
    refine .ite (fun hroom => ?_) fun _ => .ite (fun _ => moves_countRefusal) fun _ => ?_
    · exact (Moves.single (Move.insert order none source a h0 h64 hown hnone (.inl ⟨rfl, hroom⟩)))
    · split
      · rename_i v hv
        exact (Moves.single (Move.insert order (some v) source a h0 h64 hown hnone (.inr ⟨v, victim_mem hv, rfl⟩)))
      · exact moves_countRefusal

/-! ### Frames and queries -/

theorem moves_receiverTo (r : Receiver) (hq : s.bus.transmitter = .quiet) (hr : r ≠ .idle) : Moves c s (receiverTo r s) :=
  (Moves.single (Move.receiver r hq hr)).thenNote rfl

theorem moves_discardIncomplete (r : Receiver) (hq : s.bus.transmitter = .quiet) (hr : r ≠ .idle) :
    Moves c s (discardIncomplete r s) := by
  unfold discardIncomplete
  split
  · exact moves_receiverTo r hq hr
  · exact moves_countCrcError.trans (moves_receiverTo r hq hr)

theorem moves_hearStation : Moves c s (hearStation s) := by
  unfold hearStation
  dsimp only
  refine Moves.trans (t := if s.startUp.lifecycle = .isolated then rejoin s else s) ?_ (.note rfl)
  exact .ite (fun h => (Moves.single (Move.rejoin h))) fun _ => .refl

theorem moves_takeIntent (riser : Nat) (k : Key) : Moves c s (takeIntent riser k s) := by
  unfold takeIntent
  exact .ite (fun _ => .single (.stagger _ id (.inr (.inr ⟨k, rfl⟩)))) fun _ => .refl

/-- What the responder makes of an action: moves, and what the placing of the REPLY needs is left. -/
structure Acts (c : Instr) (act : State → Answer) : Prop where
  moves (s : State) : Moves c s (act s).state
  lifecycle (s : State) : (act s).state.startUp.lifecycle = s.startUp.lifecycle
  replySlots (s : State) : (act s).state.bus.replySlots = s.bus.replySlots

theorem acts_rdst : Acts c answerRdst := ⟨fun _ => .note rfl, fun _ => rfl, fun _ => rfl⟩
theorem acts_rdct : Acts c answerRdct := ⟨fun _ => .refl, fun _ => rfl, fun _ => rfl⟩
theorem acts_unknown : Acts c answerUnknown := ⟨fun _ => .refl, fun _ => rfl, fun _ => rfl⟩
theorem acts_clrc (h : mayClear c) : Acts c answerClrc := ⟨fun _ => (Moves.single (Move.clear h)), fun _ => rfl, fun _ => rfl⟩
theorem acts_rstw : Acts c answerRstw := ⟨fun _ => .note rfl, fun _ => rfl, fun _ => rfl⟩
theorem acts_frel : Acts c answerFrel := ⟨fun _ => .note rfl, fun _ => rfl, fun _ => rfl⟩

/-- RDPR leaves the state. -/
@[simp] theorem answerRdpr_state (index : Nat) (s : State) : (answerRdpr index s).state = s := by
  unfold answerRdpr; split <;> rfl

theorem acts_rdpr (index : Nat) : Acts c (answerRdpr index) :=
  ⟨fun s => by rw [answerRdpr_state]; exact .refl, by simp, by simp⟩

theorem acts_fbyp (minutes : Nat) : Acts c (answerFbyp minutes) := by
  refine ⟨fun s => ?_, fun s => ?_, fun s => ?_⟩ <;> unfold answerFbyp <;> split
  · exact .refl
  · exact (Moves.single (Move.forcedChange)).thenNote rfl
  all_goals simp [done]

theorem acts_clst : Acts c answerClst := by
  refine ⟨fun s => ?_, fun s => ?_, fun s => ?_⟩ <;> unfold answerClst done <;> dsimp only
  · exact .ite (fun h => (Moves.single (Move.stops (.inr h)))) fun _ => .refl
  all_goals split <;> simp

theorem acts_actionOf (kind argument : Nat) (h : kind = 4 → mayClear c) : Acts c (actionOf kind argument) := by
  rcases kind with _ | _ | _ | _ | _ | _ | _ | _ | _ | n
  · exact acts_unknown
  · exact acts_rdst
  · exact acts_rdct
  · exact acts_rdpr argument
  · exact acts_clrc (h rfl)
  · exact acts_rstw
  · exact acts_fbyp argument
  · exact acts_frel
  · exact acts_clst
  · have : actionOf (n + 9) argument = answerUnknown := by
      funext s; simp [actionOf]
    simpa [this] using acts_unknown

theorem moves_respond (querier : Nat) (kind : Byte) {act : State → Answer} (hact : Acts c act) :
    Moves c s (respond querier kind act s) := by
  unfold respond
  refine .ite (fun hanswers => .ite (fun _ => moves_countDropped) fun hroom => ?_) fun _ => .refl
  exact (hact.moves s).then (.placeReply _ (by rw [hact.lifecycle, hanswers]) (by rw [hact.replySlots]; omega))

theorem moves_takeValid (source : Nat) {handOn : State → State}
    (h : ∀ t : State, source ≠ t.startUp.address ∨ t.startUp.lifecycle = .config ∨ t.startUp.lifecycle = .service →
      Moves c t (handOn t)) : Moves c s (takeValid source handOn s) := by
  unfold takeValid
  refine .ite (fun _ => (Moves.single (Move.judgeClash))) fun hother => moves_hearStation.trans (h _ ?_)
  by_cases hsource : source = s.startUp.address
  · have hlife : s.startUp.lifecycle = .config ∨ s.startUp.lifecycle = .service := by tauto
    right
    rcases hlife with hl | hl <;> simp [hearStation, hl]
  · left
    simpa using hsource

theorem moves_handOnFrame (order : ReportOrder) (f : Frame) (hclear : frameKind f = some .query → mayClear c)
    (h : frameSource f ≠ s.startUp.address ∨ s.startUp.lifecycle = .config ∨ s.startUp.lifecycle = .service) :
    Moves c s (handOnFrame order f s) := by
  unfold handOnFrame
  split
  · exact moves_takeAnnounce order _ _ (Nat.mod_lt _ (by decide)) h
  · exact moves_takeIntent _ _
  · exact .ite (fun _ => moves_respond _ _ (acts_actionOf _ _ fun _ => hclear ‹_›)) fun _ => .refl
  · exact .refl
  · exact .refl

/-- The receiver takes a frame only while the transmitter is QUIET. -/
theorem canReceive_quiet (h : canReceive s = true) : s.bus.transmitter = .quiet := by
  simp only [canReceive, Bool.and_eq_true, decide_eq_true_eq] at h
  exact h.1

/-- The kind of the bytes taken is that of the bytes brought. -/
theorem frameKind_take (bytes : List Byte) (n : Nat) : frameKind (bytes.take (5 + n)) = frameKindOf (byteAt bytes 1 / 16) := by
  simp [frameKind, frameKindCode, byteAt, show 1 < 5 + n by omega]

theorem moves_receiveBytes (order : ReportOrder) (bytes : List Byte)
    (hclear : frameKindOf (byteAt bytes 1 / 16) = some .query → mayClear c) : Moves c s (receiveBytes order bytes s) := by
  unfold receiveBytes
  refine .ite (fun hreceive => ?_) fun _ => .refl
  have hq := canReceive_quiet hreceive
  have hcollect := (Moves.single (Move.receiver (c := c) .collecting hq (by decide)))
  refine .ite (fun _ => hcollect) fun _ => .ite (fun _ => moves_discardIncomplete _ hq (by decide)) fun _ =>
    .ite (fun _ => hcollect) fun _ => ?_
  unfold checkFrame
  dsimp only
  split
  · refine (moves_receiverTo _ hq (by decide)).trans (moves_takeValid _ fun t ht => ?_)
    exact moves_handOnFrame order _ (fun hk => hclear (by rw [← hk, frameKind_take])) ht
  · exact (moves_receiverTo _ hq (by decide)).trans moves_countCrcError

theorem moves_receiveQuery (source : Addr) (kind : Byte) {act : State → Answer} (hact : Acts c act) :
    Moves c s (receiveQuery source kind act s) := by
  unfold receiveQuery
  refine .ite (fun hreceive => ?_) fun _ => .refl
  refine (moves_receiverTo _ (canReceive_quiet hreceive) (by decide)).trans (moves_takeValid _ fun t _ => ?_)
  exact .ite (fun _ => .refl) fun _ => moves_respond _ _ hact

theorem moves_collectingFails : Moves c s (collectingFails s) := by
  unfold collectingFails
  exact .ite (fun h => moves_discardIncomplete _ h.2 (by decide)) fun _ => .refl

/-! ### The outcome of a transmission -/

theorem moves_openWindow : Moves c s (openWindow s) := by
  unfold openWindow
  split
  · rename_i p hp
    exact .single (.stagger _ (fun _ => by simp [hp]) (.inl rfl))
  · exact .refl

theorem moves_replyOutcome (t : Transmission) : Moves c s (replyOutcome t s) := by
  unfold replyOutcome
  exact .ite (fun _ => (Moves.single (Move.warmStart))) fun _ => .refl

theorem moves_announceSent (t : Transmission) : Moves c s (announceSent t s) := by
  unfold announceSent
  refine .ite (fun h => ?_) fun _ => .refl
  have hcount : Moves c s { s with startUp := { s.startUp with ownCount := min 3 (s.startUp.ownCount + 1) } } := .note rfl
  dsimp only
  exact .ite (fun _ => hcount.then (.enterActive h.1)) fun _ => hcount

theorem moves_reportSent (t : Transmission) : Moves c s (reportSent t s) := by
  unfold reportSent
  split
  · exact .ite (fun _ => moves_openWindow) fun _ => .refl
  · exact moves_announceSent t
  · exact moves_replyOutcome t

theorem moves_intentAbandoned : Moves c s (intentAbandoned s) := by
  unfold intentAbandoned
  split
  · rename_i p hp
    exact .ite (fun _ => moves_openWindow) fun _ => .single (.stagger _ (fun _ => by simp [hp]) (.inl rfl))
  · exact .refl

theorem moves_reportAbandoned (t : Transmission) : Moves c s (reportAbandoned t s) := by
  unfold reportAbandoned
  split
  · exact .ite (fun _ => moves_intentAbandoned) fun _ => .refl
  · exact .refl
  · exact moves_replyOutcome t

theorem moves_frameSent (t : Transmission) (h : onLine s = some t) : Moves c s (frameSent t s) :=
  (Moves.single (Move.endTransmission _ _ t (by decide) h)).trans (moves_reportSent t)

theorem moves_frameDropped (t : Transmission) (h : onLine s = some t) : Moves c s (frameDropped t s) :=
  (moves_countAbandoned.then (.endTransmission _ _ t (by decide) h)).trans (moves_reportAbandoned t)

/-! ### The commands -/

theorem moves_windowExpires (p : Pending) (h : s.stagger.pending = some p) : Moves c s (windowExpires p s) := by
  unfold windowExpires
  dsimp only
  exact .ite (fun _ => (Moves.single (Move.slotExpires p h))) fun _ => .single (.stagger _ (fun _ => by simp [h]) (.inr (.inl rfl)))

theorem moves_announceExpires (h : s.bus.announceTimer.isSome = true) : Moves c s (announceExpires s) :=
  ((Moves.single (Move.announceTimer (secs s.cfg.announcePeriod) h)).thenNote rfl).then (.placeAnnounce _ rfl)

theorem moves_lastHeardExpires : Moves c s (lastHeardExpires s) := by
  unfold lastHeardExpires
  exact .ite (fun h => (Moves.single (Move.enterIsolated h.2))) fun _ => .note rfl

/-- Every command is a sequence of moves. -/
theorem exec_moves (c : Instr) (s : State) : ∃ t, exec c s = .next t ∧ Moves c s t := by
  cases c
  case coldStart hi lo record => exact ⟨_, rfl, (Moves.single (Move.coldStart hi lo record rfl))⟩
  case configEnd => exact ⟨_, rfl, .ite (fun h => (Moves.single (Move.configEnds h.2))) fun _ => .refl⟩
  case scanTimerExpiry scanIn => exact ⟨_, rfl, .ite (fun _ => moves_scanTimerExpires scanIn) fun _ => .refl⟩
  case scanOutPulseEnd => exact ⟨_, rfl, .ite (fun _ => .note rfl) fun _ => .refl⟩
  case scanInRisingEdge => exact ⟨_, rfl, .ite (fun _ => moves_strobe) fun _ => .refl⟩
  case conversionComplete code =>
    refine ⟨_, rfl, ?_⟩
    split
    · exact moves_conversionCompletes _ _
    · exact .refl
  case rotInRisingEdge => exact ⟨_, rfl, .ite (fun _ => .note rfl) fun _ => .refl⟩
  case gateWindowExpiry => exact ⟨_, rfl, .ite moves_gateExpires fun _ => .refl⟩
  case decision order => exact ⟨_, rfl, .ite (moves_decisionExpires order rfl) fun _ => .refl⟩
  case forceBypassTimerExpiry => exact ⟨_, rfl, .ite (fun _ => .note rfl) fun _ => .refl⟩
  case holdTimerExpiry => exact ⟨_, rfl, .ite (fun h => (Moves.single (Move.holdExpires h))) fun _ => .refl⟩
  case silenceCoasting e order =>
    refine ⟨_, rfl, ?_⟩
    split
    · obtain ⟨hfound, hstate, -⟩ := recordDue_spec ‹_›
      exact (Moves.single (Move.coast order _ _ hfound hstate))
    · exact .refl
  case silenceLost e =>
    refine ⟨_, rfl, ?_⟩
    split
    · obtain ⟨hfound, hstate, -⟩ := recordDue_spec ‹_›
      exact (Moves.single (Move.lose _ _ hfound hstate))
    · exact .refl
  case silenceFreed e order =>
    refine ⟨_, rfl, ?_⟩
    split
    · obtain ⟨hfound, hstate, -⟩ := recordDue_spec ‹_›
      exact (Moves.single (Move.free order _ _ hfound hstate))
    · exact .refl
  case announce f order => exact ⟨_, rfl, moves_receiveBytes _ f id⟩
  case intent f => exact ⟨_, rfl, moves_receiveBytes _ f id⟩
  case replyReceived f => exact ⟨_, rfl, moves_receiveBytes _ f id⟩
  case queryForOtherStation f => exact ⟨_, rfl, moves_receiveBytes _ f id⟩
  case rdst => exact ⟨_, rfl, moves_receiveQuery _ _ acts_rdst⟩
  case rdct => exact ⟨_, rfl, moves_receiveQuery _ _ acts_rdct⟩
  case rdpr => exact ⟨_, rfl, moves_receiveQuery _ _ (acts_rdpr _)⟩
  case clrc => exact ⟨_, rfl, moves_receiveQuery _ _ (acts_clrc trivial)⟩
  case rstw => exact ⟨_, rfl, moves_receiveQuery _ _ acts_rstw⟩
  case fbyp => exact ⟨_, rfl, moves_receiveQuery _ _ (acts_fbyp _)⟩
  case frel => exact ⟨_, rfl, moves_receiveQuery _ _ acts_frel⟩
  case clst => exact ⟨_, rfl, moves_receiveQuery _ _ acts_clst⟩
  case unknown => exact ⟨_, rfl, moves_receiveQuery _ _ (acts_actionOf _ _ id)⟩
  case lineIdle => exact ⟨_, rfl, .ite (fun h => (Moves.single (Move.lineIdles h.2))) fun _ => .refl⟩
  case contentionLost rival =>
    refine ⟨_, rfl, ?_⟩
    split
    · exact .ite (fun _ => (Moves.single (Move.loses)).trans moves_countContentionLost) fun _ => .refl
    · exact .refl
  case frameSentWhole =>
    refine ⟨_, rfl, ?_⟩
    split
    · exact moves_frameSent _ ‹_›
    · exact .refl
  case frameAbandoned =>
    refine ⟨_, rfl, ?_⟩
    split
    · exact moves_frameDropped _ ‹_›
    · exact .refl
  case warmRestart sentWhole =>
    refine ⟨_, rfl, ?_⟩
    split
    · exact .ite (fun _ => .ite (fun _ => moves_frameSent _ ‹_›) fun _ => moves_frameDropped _ ‹_›) fun _ => .refl
    · exact .refl
  case busStuck => exact ⟨_, rfl, .ite (fun _ => (Moves.single (Move.sticky .busStuck)).then .stuck) fun _ => .refl⟩
  case announcementTimerExpiry => exact ⟨_, rfl, .ite moves_announceExpires fun _ => .refl⟩
  case lastHeardTimerExpiry => exact ⟨_, rfl, .ite (fun _ => moves_lastHeardExpires) fun _ => .refl⟩
  case clashTimerExpiry => exact ⟨_, rfl, .ite (fun _ => (Moves.single (Move.clashEnds))) fun _ => .refl⟩
  case listenTimerExpiry => exact ⟨_, rfl, .ite (fun h => (Moves.single (Move.listenEnds h.2))) fun _ => .refl⟩
  case intentWindowExpiry =>
    refine ⟨_, rfl, ?_⟩
    split
    · exact moves_windowExpires _ ‹_›
    · exact .refl
  case slotTimerExpiry =>
    refine ⟨_, rfl, ?_⟩
    split
    · exact (Moves.single (Move.slotExpires _ ‹_›))
    · exact .refl
  case backoffTimerExpiry =>
    refine ⟨_, rfl, ?_⟩
    split
    · rename_i p n hp hn
      exact (Moves.single (.stagger { s.stagger with backoff := none } id (.inl rfl))).then (.placeIntent _ (by simp [hp]))
    · exact .refl
  case offDelayTimerExpiry => exact ⟨_, rfl, .ite (fun h => (Moves.single (Move.offDelayEnds h.1 h.2.1 h.2.2.2))) fun _ => .refl⟩
  case idleTimerExpiry => exact ⟨_, rfl, .ite (fun h => (Moves.single (Move.purges h.2 h.1))) fun _ => .refl⟩
  case purgeTimerExpiry => exact ⟨_, rfl, .ite (fun h => (Moves.single (Move.stops (.inl h.2)))) fun _ => .refl⟩
  case settleTimerExpiry d => exact ⟨_, rfl, .ite (fun _ => by cases d <;> exact .note rfl) fun _ => .refl⟩
  case polarityPhaseEnd =>
    refine ⟨_, rfl, ?_⟩
    split
    · exact .ite (fun h => (Moves.single (Move.phaseEnds _ ‹_› h))) fun _ => .refl
    · exact .refl
  case framingError => exact ⟨_, rfl, moves_collectingFails⟩
  case badLength => exact ⟨_, rfl, moves_collectingFails⟩
  case startBit =>
    exact ⟨_, rfl, .ite (fun h => (Moves.single (Move.receiver .collecting h.2 (by decide))).thenNote rfl) fun _ => .refl⟩

/-- A step keeps what every command and the passing of a millisecond keep, and what does not speak of the queue. -/
theorem step_keeps_of_exec {I : State → Prop} (hqueue : ∀ s q, I s → I { s with pending := q }) (htick : ∀ s, I s → I (tick s))
    (hexec : ∀ c s t, exec c s = .next t → I s → I t) {s t : State} (hs : I s) (hstep : step s = .next t) : I t := by
  unfold step at hstep
  split at hstep
  · cases hstep
    exact htick s hs
  · rename_i c cs _
    exact hexec c _ t hstep (hqueue s cs hs)

/-- The moves of a command are those to the state it answers. -/
theorem moves_of_exec {t : State} (h : exec c s = .next t) : Moves c s t := by
  obtain ⟨u, hu, hmoves⟩ := exec_moves c s
  rw [hu] at h
  cases h
  exact hmoves

/-- A step keeps what every move and the passing of a millisecond keep, and what does not speak of the queue. -/
theorem step_keeps {I : State → Prop} (hqueue : ∀ s q, I s → I { s with pending := q }) (htick : ∀ s, I s → I (tick s))
    (hmove : ∀ c s t, Move c s t → I s → I t) {s t : State} (hs : I s) (hstep : step s = .next t) : I t :=
  step_keeps_of_exec hqueue htick (fun c _ _ h => (moves_of_exec h).keeps (hmove c)) hs hstep

end Sys2Proof.Machine
end


-- ==== Sys2Proof/Proofs/Kept.lean ====
section
/-! SUPPORT. What the moves leave: the queue, the configuration, and, but for CLRC and a cold start, counters and sticky flags. -/

namespace Sys2Proof.Machine

/-! ### What the larger moves leave as it is -/

/-- What a note leaves as it is. -/
@[simp] theorem noting_frame (s n : State) :
    (s.noting n).startUp.lifecycle = s.startUp.lifecycle ∧ (s.noting n).startUp.address = s.startUp.address ∧
    (s.noting n).startUp.settings = s.startUp.settings ∧ (s.noting n).startUp.configDefault = s.startUp.configDefault ∧
    (s.noting n).scanner.windows = s.scanner.windows ∧ (s.noting n).rotation.gate = s.rotation.gate ∧
    (s.noting n).reconciler = s.reconciler ∧ (s.noting n).engine.applied = s.engine.applied ∧
    (s.noting n).engine.baseSpeed = s.engine.baseSpeed ∧ (s.noting n).engine.speedTarget = s.engine.speedTarget ∧
    (s.noting n).engine.reliefRequest = s.engine.reliefRequest ∧ (s.noting n).engine.reliefCap = s.engine.reliefCap ∧
    (s.noting n).engine.wfcRequest = s.engine.wfcRequest ∧ (s.noting n).engine.wfcCap = s.engine.wfcCap ∧
    (s.noting n).engine.decisionTimer = s.engine.decisionTimer ∧ (s.noting n).table = s.table ∧
    (s.noting n).allocator = s.allocator ∧ (s.noting n).stagger = s.stagger ∧ (s.noting n).fan = s.fan ∧
    (s.noting n).output.wheel = s.output.wheel ∧ (s.noting n).output.idle = s.output.idle ∧
    (s.noting n).output.purge = s.output.purge ∧ (s.noting n).output.wanted = s.output.wanted ∧
    (s.noting n).output.test = s.output.test ∧ (s.noting n).output.wheelSpd = s.output.wheelSpd ∧
    (s.noting n).output.wfcPos = s.output.wfcPos ∧ (s.noting n).output.wheelRun = s.output.wheelRun ∧
    (s.noting n).output.bypass.command = s.output.bypass.command ∧
    (s.noting n).output.bypass.outcome = s.output.bypass.outcome ∧
    (s.noting n).output.outdoor.command = s.output.outdoor.command ∧
    (s.noting n).output.outdoor.outcome = s.output.outdoor.outcome ∧
    (s.noting n).bus.receiver = s.bus.receiver ∧ (s.noting n).bus.transmitter = s.bus.transmitter ∧
    (s.noting n).bus.announceSlot = s.bus.announceSlot ∧ (s.noting n).bus.intentSlot = s.bus.intentSlot ∧
    (s.noting n).bus.replySlots = s.bus.replySlots ∧ (s.noting n).bus.onAir = s.bus.onAir ∧
    (s.noting n).bus.announceTimer = s.bus.announceTimer ∧ (s.noting n).bus.clash = s.bus.clash ∧
    (s.noting n).bus.stuck = s.bus.stuck ∧ (s.noting n).responder = s.responder ∧
    (s.noting n).counters = s.counters ∧ (s.noting n).pending = s.pending :=
  ⟨rfl, rfl, rfl, rfl, rfl, rfl, rfl, rfl, rfl, rfl, rfl, rfl, rfl, rfl, rfl, rfl, rfl, rfl, rfl, rfl, rfl, rfl, rfl,
    rfl, rfl, rfl, rfl, rfl, rfl, rfl, rfl, rfl, rfl, rfl, rfl, rfl, rfl, rfl, rfl, rfl, rfl, rfl, rfl⟩

/-! ### The lifecycle state the moves lead to -/

@[simp] theorem setLifecycle_lifecycle (l : Lifecycle) (s : State) : (setLifecycle l s).startUp.lifecycle = l := rfl

@[simp] theorem enterListen_lifecycle (s : State) : (enterListen s).startUp.lifecycle = .listen := rfl

@[simp] theorem warmStart_lifecycle (s : State) : (warmStart s).startUp.lifecycle = .listen := rfl

@[simp] theorem enterActive_lifecycle (s : State) : (enterActive s).startUp.lifecycle = .active := by simp [enterActive]

@[simp] theorem enterIsolated_lifecycle (s : State) : (enterIsolated s).startUp.lifecycle = .isolated := by
  unfold enterIsolated; dsimp only; split <;> simp

@[simp] theorem rejoin_lifecycle (s : State) : (rejoin s).startUp.lifecycle = .joining := by simp [rejoin]

/-! ### What the larger moves leave as it is, continued -/

/-- What a declared stall leaves as it is. -/
@[simp] theorem declareStall_frame (s : State) :
    (declareStall s).startUp = s.startUp ∧ (declareStall s).scanner = s.scanner ∧
    (declareStall s).reconciler = s.reconciler ∧ (declareStall s).engine.regime = s.engine.regime ∧
    (declareStall s).engine.candidate = s.engine.candidate ∧ (declareStall s).engine.fallback = s.engine.fallback ∧
    (declareStall s).engine.baseSpeed = s.engine.baseSpeed ∧ (declareStall s).engine.speedTarget = s.engine.speedTarget ∧
    (declareStall s).engine.reliefRequest = s.engine.reliefRequest ∧
    (declareStall s).engine.reliefCap = s.engine.reliefCap ∧ (declareStall s).engine.wfcRequest = s.engine.wfcRequest ∧
    (declareStall s).engine.wfcCap = s.engine.wfcCap ∧ (declareStall s).engine.forceBypass = s.engine.forceBypass ∧
    (declareStall s).engine.decisionTimer = s.engine.decisionTimer ∧ (declareStall s).table = s.table ∧
    (declareStall s).allocator = s.allocator ∧ (declareStall s).fan = s.fan ∧
    (declareStall s).output.wanted = s.output.wanted ∧ (declareStall s).output.test = s.output.test ∧
    (declareStall s).output.wfcPos = s.output.wfcPos ∧ (declareStall s).bus.receiver = s.bus.receiver ∧
    (declareStall s).bus.transmitter = s.bus.transmitter ∧ (declareStall s).bus.announceSlot = s.bus.announceSlot ∧
    (declareStall s).bus.replySlots = s.bus.replySlots ∧ (declareStall s).bus.announceTimer = s.bus.announceTimer ∧
    (declareStall s).bus.clash = s.bus.clash ∧ (declareStall s).bus.stuck = s.bus.stuck ∧
    (declareStall s).counters = s.counters ∧ (declareStall s).pending = s.pending := by
  unfold declareStall; dsimp only; split <;> simp

/-- What a warm restart leaves as it is (R184). -/
@[simp] theorem warmStart_frame (s : State) :
    (warmStart s).startUp.address = s.startUp.address ∧ (warmStart s).startUp.settings = s.startUp.settings ∧
    (warmStart s).startUp.configDefault = s.startUp.configDefault ∧ (warmStart s).startUp.configTimer = s.startUp.configTimer ∧
    (warmStart s).responder.sticky = s.responder.sticky ∧ (warmStart s).counters = s.counters ∧
    (warmStart s).freeDraws = s.freeDraws ∧ (warmStart s).pending = s.pending := by
  simp [warmStart]

/-- What the hand-over of the configuration leaves as it is (R179). -/
@[simp] theorem handConfiguration_frame (s : State) :
    (handConfiguration s).startUp.lifecycle = s.startUp.lifecycle ∧
    (handConfiguration s).startUp.address = s.startUp.address ∧ (handConfiguration s).startUp.settings = s.startUp.settings ∧
    (handConfiguration s).startUp.configDefault = s.startUp.configDefault ∧
    (handConfiguration s).startUp.listenTimer = s.startUp.listenTimer ∧
    (handConfiguration s).startUp.ownCount = s.startUp.ownCount ∧
    (handConfiguration s).startUp.restartPending = s.startUp.restartPending ∧
    (handConfiguration s).responder = s.responder ∧ (handConfiguration s).counters = s.counters ∧
    (handConfiguration s).freeDraws = s.freeDraws ∧ (handConfiguration s).pending = s.pending := by
  simp [handConfiguration]

/-- What the end of CONFIG leaves as it is (R179). -/
@[simp] theorem configEnds_frame (s : State) :
    (configEnds s).startUp.address = s.startUp.address ∧ (configEnds s).startUp.settings = s.startUp.settings ∧
    (configEnds s).startUp.configDefault = s.startUp.configDefault ∧ (configEnds s).startUp.listenTimer = s.startUp.listenTimer ∧
    (configEnds s).startUp.ownCount = s.startUp.ownCount ∧ (configEnds s).startUp.restartPending = s.startUp.restartPending ∧
    (configEnds s).responder.sticky = s.responder.sticky ∧ (configEnds s).counters = s.counters ∧
    (configEnds s).freeDraws = s.freeDraws ∧ (configEnds s).pending = s.pending := by
  unfold configEnds; dsimp only; split <;> simp

/-- A polarity outcome is recorded, with DAMPER, its sticky flag and ALARM (R144): all of `setOutcome` but the forced change. -/
def recordOutcome (d : Damper) (o : Polarity) (s : State) : State :=
  let t := refreshAlarm { s with output := s.output.setDamper d { s.output.damper d with outcome := o } }
  if t.output.anyDamperFault && !s.output.anyDamperFault then setSticky .damper t else t

/-- An outdoor FAULT in ECONOMIZE forces BYPASS (R21); any other outcome is only recorded. -/
theorem setOutcome_eq (d : Damper) (o : Polarity) (s : State) :
    setOutcome d o s =
      if d = .outdoor ∧ o = .fault ∧ s.engine.applied = .economize then forcedChange (recordOutcome d o s)
      else recordOutcome d o s := rfl

/-- What the record of an outcome leaves as it is. -/
@[simp] theorem recordOutcome_frame (d : Damper) (o : Polarity) (s : State) :
    (recordOutcome d o s).startUp = s.startUp ∧ (recordOutcome d o s).scanner = s.scanner ∧
    (recordOutcome d o s).rotation = s.rotation ∧ (recordOutcome d o s).reconciler = s.reconciler ∧
    (recordOutcome d o s).engine = s.engine ∧ (recordOutcome d o s).table = s.table ∧
    (recordOutcome d o s).allocator = s.allocator ∧ (recordOutcome d o s).stagger = s.stagger ∧
    (recordOutcome d o s).fan = s.fan ∧ (recordOutcome d o s).bus = s.bus ∧
    (recordOutcome d o s).counters = s.counters ∧ (recordOutcome d o s).freeDraws = s.freeDraws ∧
    (recordOutcome d o s).pending = s.pending ∧
    (recordOutcome d o s).output = s.output.setDamper d { s.output.damper d with outcome := o } := by
  unfold recordOutcome; dsimp only; split <;> simp

/-- A polarity outcome leaves the valve. -/
@[simp] theorem setOutcome_wfcPos (d : Damper) (o : Polarity) (s : State) :
    (setOutcome d o s).output.wfcPos = s.output.wfcPos := by
  unfold setOutcome; cases d <;> dsimp only <;> split <;> split <;> simp [Output.setDamper]

/-- What the end of a polarity test phase leaves as it is (R142). -/
@[simp] theorem phaseEnds_frame (t : PolarityTest) (s : State) :
    (phaseEnds t s).startUp.address = s.startUp.address ∧ (phaseEnds t s).startUp.settings = s.startUp.settings ∧
    (phaseEnds t s).startUp.configDefault = s.startUp.configDefault ∧
    (phaseEnds t s).startUp.configTimer = s.startUp.configTimer ∧ (phaseEnds t s).startUp.ownCount = s.startUp.ownCount ∧
    (phaseEnds t s).startUp.restartPending = s.startUp.restartPending ∧ (phaseEnds t s).scanner = s.scanner ∧
    (phaseEnds t s).reconciler = s.reconciler ∧ (phaseEnds t s).engine.baseSpeed = s.engine.baseSpeed ∧
    (phaseEnds t s).engine.speedTarget = s.engine.speedTarget ∧
    (phaseEnds t s).engine.reliefRequest = s.engine.reliefRequest ∧ (phaseEnds t s).engine.reliefCap = s.engine.reliefCap ∧
    (phaseEnds t s).engine.wfcRequest = s.engine.wfcRequest ∧ (phaseEnds t s).engine.wfcCap = s.engine.wfcCap ∧
    (phaseEnds t s).engine.decisionTimer = s.engine.decisionTimer ∧ (phaseEnds t s).table = s.table ∧
    (phaseEnds t s).allocator = s.allocator ∧ (phaseEnds t s).fan = s.fan ∧
    (phaseEnds t s).output.wanted = s.output.wanted ∧ (phaseEnds t s).output.wfcPos = s.output.wfcPos ∧
    (phaseEnds t s).bus.receiver = s.bus.receiver ∧ (phaseEnds t s).bus.transmitter = s.bus.transmitter ∧
    (phaseEnds t s).bus.announceSlot = s.bus.announceSlot ∧ (phaseEnds t s).bus.replySlots = s.bus.replySlots ∧
    (phaseEnds t s).bus.announceTimer = s.bus.announceTimer ∧ (phaseEnds t s).bus.clash = s.bus.clash ∧
    (phaseEnds t s).bus.stuck = s.bus.stuck ∧ (phaseEnds t s).counters = s.counters ∧
    (phaseEnds t s).freeDraws = s.freeDraws ∧ (phaseEnds t s).pending = s.pending := by
  unfold phaseEnds; dsimp only; split <;> simp

/-- What the end of LISTEN leaves as it is (R180). -/
@[simp] theorem listenEnds_frame (s : State) :
    (listenEnds s).startUp.lifecycle = .joining ∧
    (listenEnds s).startUp.address = s.startUp.address ∧ (listenEnds s).startUp.settings = s.startUp.settings ∧
    (listenEnds s).startUp.configDefault = s.startUp.configDefault ∧ (listenEnds s).startUp.configTimer = s.startUp.configTimer ∧
    (listenEnds s).startUp.restartPending = s.startUp.restartPending ∧ (listenEnds s).scanner = s.scanner ∧
    (listenEnds s).rotation = s.rotation ∧ (listenEnds s).reconciler = s.reconciler ∧
    (listenEnds s).engine = { s.engine with decisionTimer := some (secs s.cfg.decisionPeriod) } ∧
    (listenEnds s).table = s.table ∧ (listenEnds s).allocator = s.allocator ∧ (listenEnds s).stagger = s.stagger ∧
    (listenEnds s).bus = { s.bus with announceTimer := some (s.startUp.address * 50) } ∧
    (listenEnds s).output.wheel = s.output.wheel ∧ (listenEnds s).output.purge = s.output.purge ∧
    (listenEnds s).output.wanted = s.output.wanted ∧ (listenEnds s).output.test = s.output.test ∧
    (listenEnds s).output.wheelSpd = s.output.wheelSpd ∧ (listenEnds s).output.wheelRun = s.output.wheelRun ∧
    (listenEnds s).responder.sticky = s.responder.sticky ∧ (listenEnds s).counters = s.counters ∧
    (listenEnds s).freeDraws = s.freeDraws ∧ (listenEnds s).pending = s.pending := by
  simp [listenEnds]

/-- What the end of a stuck line leaves as it is (R155). -/
@[simp] theorem unstick_frame (s : State) :
    (if s.bus.stuck = true then setStuck false s else s).startUp = s.startUp ∧
    (if s.bus.stuck = true then setStuck false s else s).scanner = s.scanner ∧
    (if s.bus.stuck = true then setStuck false s else s).rotation = s.rotation ∧
    (if s.bus.stuck = true then setStuck false s else s).reconciler = s.reconciler ∧
    (if s.bus.stuck = true then setStuck false s else s).engine = s.engine ∧
    (if s.bus.stuck = true then setStuck false s else s).table = s.table ∧
    (if s.bus.stuck = true then setStuck false s else s).allocator = s.allocator ∧
    (if s.bus.stuck = true then setStuck false s else s).stagger = s.stagger ∧
    (if s.bus.stuck = true then setStuck false s else s).output = s.output ∧
    (if s.bus.stuck = true then setStuck false s else s).counters = s.counters ∧
    (if s.bus.stuck = true then setStuck false s else s).freeDraws = s.freeDraws ∧
    (if s.bus.stuck = true then setStuck false s else s).pending = s.pending ∧
    (if s.bus.stuck = true then setStuck false s else s).responder.sticky = s.responder.sticky ∧
    (if s.bus.stuck = true then setStuck false s else s).bus = { s.bus with stuck := false } := by
  split
  · simp; simp [setStuck]
  · rename_i h; simp at h; simp [← h]

variable {c : Instr} {s t : State}

/-! ### The queue and the configuration -/

/-- No move touches the queue of waiting commands. -/
theorem Move.keeps_queue (h : Move c s t) : t.pending = s.pending := by
  cases h
  case coldStart => unfold Machine.coldStart; dsimp only; split <;> rfl
  all_goals simp

/-- Settles O2: every command is a run of moves, and each move keeps the queue. -/
theorem commandsCompleteAndKeepTheQueue : Obligations.CommandsCompleteAndKeepTheQueue := by
  unfold Obligations.CommandsCompleteAndKeepTheQueue
  intro c s
  obtain ⟨t, ht, hmoves⟩ := exec_moves c s
  exact ⟨t, ht, hmoves.keeps (I := fun u => u.pending = s.pending) (fun _ _ hm hu => hm.keeps_queue.trans hu) rfl⟩

/-- Only a cold start moves the configuration, the strap address or CONFIG_DEFAULT. -/
theorem Move.keeps_configuration (h : Move c s t) (hc : ∀ hi lo record, c ≠ .coldStart hi lo record) :
    t.startUp.settings = s.startUp.settings ∧ t.startUp.address = s.startUp.address ∧
    t.startUp.configDefault = s.startUp.configDefault := by
  cases h
  case coldStart hi lo record h => exact absurd h (hc hi lo record)
  all_goals simp

/-- Settles O3, by the moves: none but that of COLD_START touches the configuration. -/
theorem configurationSettledUntilColdStart : Obligations.ConfigurationSettledUntilColdStart := by
  unfold Obligations.ConfigurationSettledUntilColdStart
  intro c s t hc h
  refine (moves_of_exec h).keeps (I := fun u => u.startUp.settings = s.startUp.settings ∧
    u.startUp.address = s.startUp.address ∧ u.startUp.configDefault = s.startUp.configDefault) ?_ ⟨rfl, rfl, rfl⟩
  intro u v hm hu
  obtain ⟨hsettings, haddress, hdefault⟩ := hm.keeps_configuration hc
  exact ⟨hsettings.trans hu.1, haddress.trans hu.2.1, hdefault.trans hu.2.2⟩

/-! ### Counters and sticky flags -/

/-- Every sticky flag that is set in one set of flags is set in another. -/
structure FaultSet.Within (f g : FaultSet) : Prop where
  sensor : f.sensor = true → g.sensor = true
  reference : f.reference = true → g.reference = true
  wheelStall : f.wheelStall = true → g.wheelStall = true
  damper : f.damper = true → g.damper = true
  addressClash : f.addressClash = true → g.addressClash = true
  configDefault : f.configDefault = true → g.configDefault = true
  busStuck : f.busStuck = true → g.busStuck = true
  isolated : f.isolated = true → g.isolated = true

theorem FaultSet.Within.refl (f : FaultSet) : f.Within f := ⟨id, id, id, id, id, id, id, id⟩

theorem FaultSet.Within.trans {f g h : FaultSet} (a : f.Within g) (b : g.Within h) : f.Within h :=
  ⟨b.sensor ∘ a.sensor, b.reference ∘ a.reference, b.wheelStall ∘ a.wheelStall, b.damper ∘ a.damper,
    b.addressClash ∘ a.addressClash, b.configDefault ∘ a.configDefault, b.busStuck ∘ a.busStuck, b.isolated ∘ a.isolated⟩

/-- A flag that is set clears none (R189). -/
theorem FaultSet.within_insert (f : FaultSet) (x : StationFault) : f.Within (f.insert x) := by
  cases x <;> constructor <;> simp +contextual [FaultSet.insert]

@[simp] theorem setSticky_sticky (x : StationFault) (s : State) :
    (setSticky x s).responder.sticky = s.responder.sticky.insert x := rfl

theorem sticky_setSticky (x : StationFault) (s : State) : s.responder.sticky.Within (setSticky x s).responder.sticky :=
  FaultSet.within_insert _ x

theorem sticky_putWindow (q : Quantity) (w : Window) (s : State) :
    s.responder.sticky.Within (putWindow q w s).responder.sticky := by
  unfold putWindow
  dsimp only
  split
  · exact sticky_setSticky .sensor _
  · exact .refl _

theorem sticky_holdExpires (s : State) : s.responder.sticky.Within (holdExpires s).responder.sticky := by
  simpa [holdExpires] using FaultSet.within_insert s.responder.sticky .reference

theorem sticky_declareStall (s : State) : s.responder.sticky.Within (declareStall s).responder.sticky := by
  unfold declareStall
  dsimp only
  split <;> simpa using FaultSet.within_insert s.responder.sticky .wheelStall

theorem sticky_setOutcome (d : Damper) (o : Polarity) (s : State) :
    s.responder.sticky.Within (setOutcome d o s).responder.sticky := by
  have hrecord : s.responder.sticky.Within (recordOutcome d o s).responder.sticky := by
    unfold recordOutcome
    dsimp only
    split
    · exact sticky_setSticky .damper _
    · exact .refl _
  rw [setOutcome_eq]
  split <;> simpa using hrecord

theorem sticky_phaseEnds (t : PolarityTest) (s : State) : s.responder.sticky.Within (phaseEnds t s).responder.sticky := by
  unfold phaseEnds
  dsimp only
  split
  · simpa using FaultSet.Within.refl _
  · simpa using sticky_setOutcome _ _ s
  · simpa using FaultSet.Within.refl _
  · simpa using sticky_setOutcome _ _ s

theorem sticky_enterIsolated (s : State) : s.responder.sticky.Within (enterIsolated s).responder.sticky := by
  unfold enterIsolated
  dsimp only
  split <;> simpa using FaultSet.within_insert s.responder.sticky .isolated

theorem sticky_judgeClash (s : State) : s.responder.sticky.Within (judgeClash s).responder.sticky := by
  unfold judgeClash
  dsimp only
  split
  · exact .refl _
  · simpa using FaultSet.within_insert s.responder.sticky .addressClash

/-- Only a cold start and CLRC clear a sticky flag. -/
theorem Move.keeps_sticky (h : Move c s t) (hclear : ¬ mayClear c) (hcold : ∀ hi lo record, c ≠ .coldStart hi lo record) :
    s.responder.sticky.Within t.responder.sticky := by
  cases h
  case clear h => exact absurd h hclear
  case coldStart hi lo record h => exact absurd h (hcold hi lo record)
  case sticky => exact sticky_setSticky _ _
  case accepted => exact sticky_putWindow _ _ _
  case rejected => exact sticky_putWindow _ _ _
  case holdExpires => exact sticky_holdExpires _
  case declareStall => exact sticky_declareStall _
  case outcome => exact sticky_setOutcome _ _ _
  case phaseEnds => exact sticky_phaseEnds _ _
  case enterIsolated => exact sticky_enterIsolated _
  case judgeClash => exact sticky_judgeClash _
  all_goals simpa using FaultSet.Within.refl _

/-- The counters at an idle of the line: a frame that did not complete may be counted (R154). -/
theorem counts_receiverIdles (s : State) : s.counters.Counts (receiverIdles s).counters := by
  have hsame : s.counters.Counts s.counters := ⟨.inl rfl, .inl rfl, .inl rfl, .inl rfl, .inl rfl, .inl rfl, .inl rfl, .inl rfl⟩
  unfold receiverIdles
  split
  · unfold discardIncomplete
    split
    · exact hsame
    · exact ⟨.inr rfl, .inl rfl, .inl rfl, .inl rfl, .inl rfl, .inl rfl, .inl rfl, .inl rfl⟩
  all_goals exact hsame

/-- A move leaves the counters or counts, but for a cold start and CLRC. -/
theorem Move.counts (h : Move c s t) (hclear : ¬ mayClear c) (hcold : ∀ hi lo record, c ≠ .coldStart hi lo record) :
    s.counters.Counts t.counters := by
  cases h
  case clear h => exact absurd h hclear
  case coldStart hi lo record h => exact absurd h (hcold hi lo record)
  case count h => exact h
  case lineIdles => simpa using counts_receiverIdles (if s.bus.stuck = true then setStuck false s else s)
  all_goals
    simpa using Counters.Counts.mk (c := s.counters) (.inl rfl) (.inl rfl) (.inl rfl) (.inl rfl) (.inl rfl) (.inl rfl)
      (.inl rfl) (.inl rfl)

/-- Every counter is at most that of another set of counters, and that within 0 to 65535. -/
structure Counters.UpTo (c c' : Counters) : Prop where
  crcErrors : c.crcErrors ≤ c'.crcErrors ∧ c'.crcErrors ≤ 65535
  framesAbandoned : c.framesAbandoned ≤ c'.framesAbandoned ∧ c'.framesAbandoned ≤ 65535
  contentionsLost : c.contentionsLost ≤ c'.contentionsLost ∧ c'.contentionsLost ≤ 65535
  seqGaps : c.seqGaps ≤ c'.seqGaps ∧ c'.seqGaps ≤ 65535
  tableRefusals : c.tableRefusals ≤ c'.tableRefusals ∧ c'.tableRefusals ≤ 65535
  queriesDropped : c.queriesDropped ≤ c'.queriesDropped ∧ c'.queriesDropped ≤ 65535
  sampleRejects : c.sampleRejects ≤ c'.sampleRejects ∧ c'.sampleRejects ≤ 65535
  scanOverruns : c.scanOverruns ≤ c'.scanOverruns ∧ c'.scanOverruns ≤ 65535

/-- A counter within its range does not fall when it stays or is counted up, and stays within it. -/
theorem le_of_counted {a b n : Nat} (hn : a ≤ n ∧ n ≤ 65535) (h : b = n ∨ b = bump n) : a ≤ b ∧ b ≤ 65535 := by
  unfold bump satInc at h
  omega

theorem Counters.UpTo.counts {a b c : Counters} (h : a.UpTo b) (hc : b.Counts c) : a.UpTo c :=
  ⟨le_of_counted h.crcErrors hc.crcErrors, le_of_counted h.framesAbandoned hc.framesAbandoned,
    le_of_counted h.contentionsLost hc.contentionsLost, le_of_counted h.seqGaps hc.seqGaps,
    le_of_counted h.tableRefusals hc.tableRefusals, le_of_counted h.queriesDropped hc.queriesDropped,
    le_of_counted h.sampleRejects hc.sampleRejects, le_of_counted h.scanOverruns hc.scanOverruns⟩

/-- Counters in range are up to themselves. -/
theorem upTo_of_inRange {s : State} (h : countersInRange s) : s.counters.UpTo s.counters := by
  obtain ⟨h1, h2, h3, h4, h5, h6, h7, h8⟩ := h
  exact ⟨⟨le_rfl, h1⟩, ⟨le_rfl, h2⟩, ⟨le_rfl, h3⟩, ⟨le_rfl, h4⟩, ⟨le_rfl, h5⟩, ⟨le_rfl, h6⟩, ⟨le_rfl, h7⟩, ⟨le_rfl, h8⟩⟩

/-- A frame of another kind is no query. -/
theorem kind_ne_query {f : Frame} {n : Nat} (h : frameWhole f = true ∧ frameKindCode f = n) (hn : frameKindOf n ≠ some .query) :
    frameKindOf (byteAt f 1 / 16) ≠ some .query := by
  rw [← h.2] at hn
  exact hn

/-- Of the well-formed commands only CLRC clears, but for a query to another station: a frame's kind is that of its row, and UNKNOWN has no
defined kind (R156, R187). -/
theorem not_mayClear (hwf : c.wf = true) (hclrc : ∀ source argument, c ≠ .clrc source argument)
    (hquery : ∀ f, c ≠ .queryForOtherStation f) : ¬ mayClear c := by
  cases c
  case clrc source argument => exact absurd rfl (hclrc source argument)
  case queryForOtherStation f => exact absurd rfl (hquery f)
  case unknown source kind argument =>
    simp only [Instr.wf, decide_eq_true_eq] at hwf
    simp only [mayClear]
    omega
  case announce f order => exact kind_ne_query (by simpa [Instr.wf] using hwf) (by decide)
  case intent f => exact kind_ne_query (by simpa [Instr.wf] using hwf) (by decide)
  case replyReceived f => exact kind_ne_query (by simpa [Instr.wf] using hwf) (by decide)
  all_goals exact not_false

/-- Settles O4, by the moves: but for CLRC and a cold start, each counter stays or is counted up, and flags are only set. -/
theorem countersAndStickyFlagsKept : Obligations.CountersAndStickyFlagsKept := by
  unfold Obligations.CountersAndStickyFlagsKept
  intro c s t hwf hcold hclrc hquery hrange h
  have hclear := not_mayClear hwf hclrc hquery
  obtain ⟨hcounters, hsticky⟩ := (moves_of_exec h).keeps
    (I := fun u => s.counters.UpTo u.counters ∧ s.responder.sticky.Within u.responder.sticky)
    (fun _ _ hm hu => ⟨hu.1.counts (hm.counts hclear hcold), hu.2.trans (hm.keeps_sticky hclear hcold)⟩)
    ⟨upTo_of_inRange hrange, .refl _⟩
  exact ⟨⟨hcounters.crcErrors.1, hcounters.framesAbandoned.1, hcounters.contentionsLost.1, hcounters.seqGaps.1,
    hcounters.tableRefusals.1, hcounters.queriesDropped.1, hcounters.sampleRejects.1, hcounters.scanOverruns.1⟩,
    hsticky.sensor, hsticky.reference, hsticky.wheelStall, hsticky.damper, hsticky.addressClash, hsticky.configDefault,
    hsticky.busStuck, hsticky.isolated⟩

/-! ### Counters and windows in range (O18) -/

/-- The counters after a move: counted on, or all 0. -/
theorem Move.counters_inRange (h : Move c s t) (hs : countersInRange s) : countersInRange t := by
  have hcounted : s.counters.Counts t.counters → countersInRange t := fun hc => by
    have hup := (upTo_of_inRange hs).counts hc
    exact ⟨hup.crcErrors.2, hup.framesAbandoned.2, hup.contentionsLost.2, hup.seqGaps.2, hup.tableRefusals.2,
      hup.queriesDropped.2, hup.sampleRejects.2, hup.scanOverruns.2⟩
  cases h
  case clear => simp [countersInRange, zeroCounters]
  case coldStart => unfold Machine.coldStart; dsimp only; split <;> simp [countersInRange, State.reset, zeroCounters]
  case count h => exact hcounted h
  case lineIdles => exact hcounted (by simpa using counts_receiverIdles (if s.bus.stuck = true then setStuck false s else s))
  all_goals simpa [countersInRange] using hs

/-- At most sixteen samples are held (R47). -/
theorem Window.length_enter {w : Window} (v : Int) (h : w.samples.length ≤ 16) :
    (w.enter v).samples.length = min 16 (w.samples.length + 1) := by
  unfold Window.enter
  dsimp only
  split <;> simp <;> omega

/-- A window that accepts a sample stays sound: the twelfth makes it VALID, the seventeenth drives the oldest out (R47, R48). -/
theorem Window.sound_accept {w : Window} (v : Int) (h : w.sound) : (w.accept v).sound := by
  obtain ⟨habsent, hfilling, hvalid⟩ := h
  have hkept : (w.enter v).state = w.state := rfl
  have hnotValid (hstate : w.state = .filling ∨ w.state = .failed) :
      ({ w.enter v with lastAccepted := some v } : Window).samples.length < 12 →
        ({ w.enter v with lastAccepted := some v } : Window).sound := fun hshort => by
    refine ⟨fun h => ?_, fun _ => ⟨Nat.lt_succ_iff.mp hshort, (hfilling hstate).2⟩, fun h => ?_⟩ <;>
      simp [hkept] at h <;> simp [h] at hstate
  have hnowValid (hlength : w.samples.length ≤ 16) :
      12 ≤ (w.enter v).samples.length →
        ({ w.enter v with lastAccepted := some v, state := .valid, substituteRun := 0 } : Window).sound := fun h12 => by
    have henter := Window.length_enter v hlength
    exact ⟨nofun, by simp, fun _ => ⟨h12, by dsimp only; omega, by simp, rfl⟩⟩
  unfold Window.accept
  cases hstate : w.state
  case absent => exact ⟨habsent, hfilling, hvalid⟩
  case filling =>
    dsimp only
    split
    · exact hnowValid (by have := (hfilling (.inl hstate)).1; omega) ‹_›
    · exact hnotValid (.inl hstate) (Nat.lt_of_not_le ‹_›)
  case failed =>
    dsimp only
    split
    · exact hnowValid (by have := (hfilling (.inr hstate)).1; omega) ‹_›
    · exact hnotValid (.inr hstate) (Nat.lt_of_not_le ‹_›)
  case valid =>
    obtain ⟨h12, h16, -, -⟩ := hvalid hstate
    have henter := Window.length_enter v h16
    simpa [hkept, hstate] using hnowValid h16 (by omega)

/-- An emptied window is sound in every state but VALID. -/
theorem emptyWindow_sound {x : QuantityState} (h : x ≠ .valid) : (emptyWindow x).sound := by
  simp [Window.sound, emptyWindow, h]

/-- A window that takes a rejected sample stays sound (R49). -/
theorem Window.sound_reject {w : Window} (h : w.sound) : w.reject.sound := by
  obtain ⟨habsent, hfilling, hvalid⟩ := h
  unfold Window.reject
  split
  · exact ⟨habsent, hfilling, hvalid⟩
  · exact emptyWindow_sound (by decide)
  · exact emptyWindow_sound (by decide)
  · rename_i v hstate hlast
    obtain ⟨h12, h16, hrun, -⟩ := hvalid hstate
    have henter := Window.length_enter v h16
    have hkept : (w.enter v).state = .valid := hstate
    split
    · exact emptyWindow_sound (by decide)
    · exact ⟨by simp [hkept], by simp [hkept], fun _ =>
        ⟨by dsimp only; omega, by dsimp only; omega, by dsimp only; omega, by simp [Window.enter, hlast]⟩⟩
  · exact emptyWindow_sound (by decide)

/-- A window of the start is sound: FILLING or ABSENT, and empty (R53). -/
theorem startWindow_sound (c : Settings) (q : Quantity) : (startWindow c q).sound := by
  unfold startWindow emptyWindow
  split <;> simp [Window.sound]

theorem windows_startScanner (c : Settings) (q : Quantity) : (startScanner c).windows.get q = startWindow c q := by
  cases q <;> rfl

/-- The windows after one is put. -/
theorem windows_putWindow (q p : Quantity) (w : Window) (s : State) :
    (putWindow q w s).scanner.windows.get p = if p = q then w else s.scanner.windows.get p := by
  have hset : (putWindow q w s).scanner.windows = s.scanner.windows.set q w := by
    unfold putWindow; dsimp only; split <;> rfl
  rw [hset]
  split
  · subst p; simp
  · simp [*]

/-- The windows after the hand-over and after a warm restart are those of the start (R53, R184). -/
@[simp] theorem configEnds_windows (s : State) : (configEnds s).scanner.windows = (startScanner s.cfg).windows := by
  unfold configEnds handConfiguration; dsimp only; split <;> simp

@[simp] theorem warmStart_windows (s : State) : (warmStart s).scanner.windows = (startScanner s.cfg).windows := by
  simp [warmStart]

@[simp] theorem coldStart_windows (hi lo : Ratio) (record : List Byte) (s : State) :
    (coldStart hi lo record s).scanner.windows = (startScanner defaultSettings).windows := by
  unfold coldStart; dsimp only; split <;> rfl

/-- What every accepted and every rejected sample keeps of each window, and what the start has, every move keeps of all windows. -/
theorem Move.keeps_windows {P : Quantity → Window → Prop} (hstart : ∀ cfg q, P q (startWindow cfg q))
    (haccept : ∀ q code v w, sampleOf q code = some v → P q w → P q (w.accept v)) (hreject : ∀ q w, P q w → P q w.reject)
    (h : Move c s t) (hs : ∀ q, P q (s.scanner.windows.get q)) : ∀ q, P q (t.scanner.windows.get q) := by
  intro p
  cases h
  case coldStart => rw [coldStart_windows, windows_startScanner]; exact hstart _ p
  case configEnds => rw [configEnds_windows, windows_startScanner]; exact hstart _ p
  case warmStart => rw [warmStart_windows, windows_startScanner]; exact hstart _ p
  case accepted q code v h =>
    rw [windows_putWindow]
    split
    · subst p; exact haccept q code v _ h (hs q)
    · exact hs p
  case rejected q =>
    rw [windows_putWindow]
    split
    · subst p; exact hreject q _ (hs q)
    · exact hs p
  all_goals simpa using hs p

/-- Every quantity is in the list of the nine. -/
@[simp] theorem Quantity.mem_all (q : Quantity) : q ∈ Quantity.all := by cases q <;> decide

theorem windowsSound_iff (s : State) : windowsSound s ↔ ∀ q, (s.scanner.windows.get q).sound := by
  simp only [windowsSound, Quantity.mem_all, true_implies]

/-- Settles O18, by the moves: counters are counted up to 65535, and windows take samples one at a time. -/
theorem countersAndWindowsStaySound : Obligations.CountersAndWindowsStaySound := by
  unfold Obligations.CountersAndWindowsStaySound
  refine ⟨fun s t => step_keeps (fun _ _ => id) (fun _ => id) fun _ _ _ => Move.counters_inRange, fun s t hs hstep => ?_⟩
  rw [windowsSound_iff] at hs ⊢
  refine step_keeps (I := fun s => ∀ q, (s.scanner.windows.get q).sound) (fun _ _ => id) (fun _ => id) ?_ hs hstep
  exact fun _ _ _ => Move.keeps_windows (P := fun _ w => w.sound) startWindow_sound
    (fun _ _ v _ _ => Window.sound_accept v) fun _ _ => Window.sound_reject

end Sys2Proof.Machine
end


-- ==== Sys2Proof/Proofs/Alarm.lean ====
section
/-! SUPPORT. Invariants that do not speak of allocator, table and fan, and first of them ALARM (R190): it follows the faults after every move. -/

namespace Sys2Proof.Machine

/-! ### Properties that the reports of the peer table keep -/

/-- A property that allocations and recomputations keep, and that does not speak of table and fan. -/
structure ReportSafe (I : State → Prop) : Prop where
  allocate (b : Budget) (s : State) : I s → I (allocate b s)
  recompute (s : State) : I s → I (recompute s)
  table (s : State) (x : PeerTable) : I s → I { s with table := x }
  fan (s : State) (f : Fan) : I s → I { s with fan := f }

namespace ReportSafe

variable {I : State → Prop} (hI : ReportSafe I) {s : State}
include hI

theorem evaluateFan (hs : I s) : I (evaluateFan s) := by
  unfold Machine.evaluateFan
  split
  · exact hI.fan _ _ hs
  · exact hs

theorem reportAllocate (p : Report) (hs : I s) : I (reportAllocate p s) := by
  unfold Machine.reportAllocate
  dsimp only
  have hrelief : I (if p.relief = true then Machine.allocate .relief s else s) := by
    split
    · exact hI.allocate _ _ hs
    · exact hs
  split
  · exact hI.allocate _ _ hrelief
  · exact hrelief

theorem reportRecompute (p : Report) (hs : I s) : I (reportRecompute p s) := by
  unfold Machine.reportRecompute
  split
  · exact hI.recompute _ hs
  · exact hs

theorem reportChange (order : ReportOrder) (p : Report) (hs : I s) : I (reportChange order p s) := by
  unfold Machine.reportChange
  dsimp only
  have hboth : I (match order with
      | .reconcilerFirst => Machine.reportAllocate p (Machine.reportRecompute p s)
      | .allocatorFirst => Machine.reportRecompute p (Machine.reportAllocate p s)) := by
    cases order
    · exact hI.reportAllocate p (hI.reportRecompute p hs)
    · exact hI.reportRecompute p (hI.reportAllocate p hs)
  split
  · exact hI.evaluateFan hboth
  · exact hboth

/-- A table change that is reported: what an ANNOUNCE or an ageing does to the table and all that follows from it. -/
theorem tableMove (order : ReportOrder) (p : Report) (x : PeerTable) (hs : I s) :
    I (Machine.reportChange order p { s with table := x }) :=
  hI.reportChange order p (hI.table s x hs)

end ReportSafe

/-! ### Properties that allocations keep -/

/-- A property that allocations keep, and that does not speak of table, reconciler and fan. -/
structure AllocationSafe (I : State → Prop) : Prop where
  allocate (b : Budget) (s : State) : I s → I (allocate b s)
  budget (s : State) (v : Nat) : I s → I { s with allocator := { s.allocator with wfc := { s.allocator.wfc with value := v } } }
  table (s : State) (x : PeerTable) : I s → I { s with table := x }
  fan (s : State) (f : Fan) : I s → I { s with fan := f }
  reconciler (s : State) (r : Reconciler) : I s → I (refreshAlarm { s with reconciler := r })
  sticky (s : State) (f : StationFault) : I s → I (setSticky f s)

namespace AllocationSafe

variable {I : State → Prop} (hI : AllocationSafe I) {s : State}
include hI

theorem evaluateFan (hs : I s) : I (evaluateFan s) := by
  unfold Machine.evaluateFan
  split
  · exact hI.fan _ _ hs
  · exact hs

theorem resumeFan (hs : I s) : I (resumeFan s) := hI.evaluateFan (hI.fan _ _ hs)

theorem fanFollows (hs : I s) : I (fanFollows s) := by
  unfold Machine.fanFollows
  split_ifs
  · exact hI.fan _ _ hs
  · exact hI.resumeFan hs
  · exact hs
  · exact hs

theorem activateFan (hs : I s) : I (activateFan s) := by
  unfold Machine.activateFan
  split_ifs
  · exact hI.fan _ _ hs
  · exact hI.resumeFan hs
  · exact hs

theorem allocateBoth (hs : I s) : I (allocateBoth s) := hI.allocate .wfc _ (hI.allocate .relief _ hs)

theorem reportReference (before : Reference) (hs : I s) : I (reportReference before s) := by
  unfold Machine.reportReference derate
  dsimp only
  split_ifs
  · exact hs
  · exact hs
  · exact hI.allocate .wfc _ (hI.budget _ _ hs)

theorem recompute (hs : I s) : I (recompute s) := hI.reportReference _ (hI.reconciler _ _ hs)

theorem holdExpires (hs : I s) : I (holdExpires s) := hI.reportReference _ (hI.sticky _ _ (hI.reconciler _ _ hs))

/-- Such a property is kept by what a report starts. -/
theorem reported : ReportSafe I where
  allocate := hI.allocate
  recompute _ := hI.recompute
  table := hI.table
  fan := hI.fan

end AllocationSafe

/-! ### Properties aside from allocator, table, reconciler and fan -/

/-- A property that does not speak of allocator, table and fan, and that drives, forced changes and a new reference keep. -/
structure Aside (I : State → Prop) : Prop where
  allocator (s : State) (a : Allocator) : I s → I { s with allocator := a }
  table (s : State) (x : PeerTable) : I s → I { s with table := x }
  fan (s : State) (f : Fan) : I s → I { s with fan := f }
  reconciler (s : State) (r : Reconciler) : I s → I (refreshAlarm { s with reconciler := r })
  sticky (s : State) (f : StationFault) : I s → I (setSticky f s)
  driveDampers (s : State) : I s → I (driveDampers s)
  driveValve (s : State) : I s → I (driveValve s)
  forcedChange (s : State) : I s → I (forcedChange s)

namespace Aside

variable {I : State → Prop} (hI : Aside I) {s : State}
include hI

theorem holdTest (hs : I s) : I (holdTest s) := by
  unfold Machine.holdTest
  split
  · exact hI.forcedChange _ hs
  · exact hs

theorem handOnGrant (b : Budget) (hs : I s) : I (handOnGrant b s) := by
  cases b
  case relief =>
    change I (Machine.evaluateFan (Machine.holdTest (Machine.driveDampers s)))
    have hheld := hI.holdTest (hI.driveDampers _ hs)
    unfold Machine.evaluateFan
    split
    · exact hI.fan _ _ hheld
    · exact hheld
  case wfc => exact hI.driveValve _ hs

theorem reduceGrant (b : Budget) (hs : I s) : I (reduceGrant b s) := by
  unfold Machine.reduceGrant
  dsimp only
  split
  · exact hI.handOnGrant b (hI.allocator _ _ hs)
  · exact hs

theorem zeroGrant (b : Budget) (hs : I s) : I (zeroGrant b s) := hI.reduceGrant b (hI.allocator _ _ hs)

/-- Such a property is one that allocations keep. -/
theorem safe : AllocationSafe I where
  allocate b _ hs := hI.reduceGrant b (hI.allocator _ _ hs)
  budget s _ := hI.allocator s _
  table := hI.table
  fan := hI.fan
  reconciler := hI.reconciler
  sticky := hI.sticky

theorem zeroGrants (hs : I s) : I (zeroGrants s) := hI.safe.allocateBoth (hI.zeroGrant .wfc (hI.zeroGrant .relief hs))

end Aside

/-! ### ALARM (R190) -/

theorem alarmFollows_moveWheel (w : Wheel) (s : State) : alarmFollows (moveWheel w s) := rfl

/-- ALARM follows as long as the flag and what the faults are read from stay. -/
theorem alarmFollows_congr {s t : State} (hs : alarmFollows s) (halarm : t.responder.alarm = s.responder.alarm)
    (hlifecycle : t.startUp.lifecycle = s.startUp.lifecycle) (hdefault : t.startUp.configDefault = s.startUp.configDefault)
    (hwindows : t.scanner.windows = s.scanner.windows) (hreference : t.reconciler.reference = s.reconciler.reference)
    (hwheel : t.output.wheel = s.output.wheel) (hbypass : t.output.bypass.outcome = s.output.bypass.outcome)
    (houtdoor : t.output.outdoor.outcome = s.output.outdoor.outcome) (hclash : t.bus.clash = s.bus.clash)
    (hstuck : t.bus.stuck = s.bus.stuck) : alarmFollows t := by
  unfold alarmFollows alarmDue faultsPresent referenceFault Output.anyDamperFault at *
  rw [halarm, hs, hlifecycle, hdefault, hwindows, hreference, hwheel, hbypass, houtdoor, hclash, hstuck]

theorem alarmFollows_applyMode {s : State} (m : Mode) (hs : alarmFollows s) : alarmFollows (applyMode m s) := by
  unfold applyMode
  split
  · exact hs
  · have hwheel (u : State) (hu : alarmFollows u) : alarmFollows (wheelFollows m u) := by
      unfold wheelFollows
      split
      all_goals first | exact alarmFollows_moveWheel _ _ | exact hu
    exact alarmFollows_congr (hwheel { s with engine := { s.engine with applied := m } } hs) (by simp) (by simp) (by simp)
      (by simp) (by simp) (by simp) (by simp) (by simp) (by simp) (by simp)

theorem alarmFollows_forcedChange {s : State} (hs : alarmFollows s) : alarmFollows (forcedChange s) :=
  alarmFollows_applyMode _ (alarmFollows_congr hs (by simp) (by simp) (by simp) (by simp) (by simp) (by simp) (by simp)
    (by simp) (by simp) (by simp))

theorem alarm_aside : Aside alarmFollows where
  allocator _ _ := id
  table _ _ := id
  fan _ _ := id
  reconciler _ _ _ := rfl
  sticky _ _ := id
  driveDampers _ hs :=
    alarmFollows_congr hs (by simp) (by simp) (by simp) (by simp) (by simp) (by simp) (by simp) (by simp) (by simp) (by simp)
  driveValve _ hs :=
    alarmFollows_congr hs (by simp) (by simp) (by simp) (by simp) (by simp) (by simp) (by simp) (by simp) (by simp) (by simp)
  forcedChange _ := alarmFollows_forcedChange

theorem alarmFollows_recordOutcome (d : Damper) (o : Polarity) (s : State) : alarmFollows (recordOutcome d o s) := by
  unfold recordOutcome
  dsimp only
  split <;> rfl

theorem alarmFollows_setOutcome (d : Damper) (o : Polarity) (s : State) : alarmFollows (setOutcome d o s) := by
  rw [setOutcome_eq]
  split
  · exact alarmFollows_forcedChange (alarmFollows_recordOutcome d o s)
  · exact alarmFollows_recordOutcome d o s

theorem alarmFollows_drivePhase {s : State} (t : PolarityTest) (byp oa : Nat) (hs : alarmFollows s) :
    alarmFollows (drivePhase t byp oa s) :=
  alarmFollows_congr hs (by simp) (by simp) (by simp) (by simp) (by simp) (by simp) (by simp) (by simp) (by simp) (by simp)

theorem alarmFollows_setSpeed {s : State} (entered : Bool) (hs : alarmFollows s) : alarmFollows (setSpeed entered s) :=
  alarmFollows_congr hs (by simp) (by simp) (by simp) (by simp) (by simp) (by simp) (by simp) (by simp) (by simp) (by simp)

/-- A judgement of the own sensor moves its state and the runs alone (R68). -/
@[simp] theorem judged_frame (disagrees : Bool) (r : Reconciler) :
    (judged disagrees r).reference = r.reference ∧ (judged disagrees r).count = r.count ∧
    (judged disagrees r).hold = r.hold := by
  unfold judged
  split <;> try split
  all_goals exact ⟨rfl, rfl, rfl⟩

@[simp] theorem judgeOwnSensor_reference (s : State) :
    (judgeOwnSensor s).reconciler.reference = s.reconciler.reference ∧
    (judgeOwnSensor s).reconciler.count = s.reconciler.count ∧ (judgeOwnSensor s).reconciler.hold = s.reconciler.hold := by
  unfold judgeOwnSensor
  split
  · split <;> simp
  · simp

theorem alarmFollows_enterIsolated (s : State) : alarmFollows (enterIsolated s) := by
  have hfan : alarmFollows (fanFollows (setSticky .isolated (setLifecycle .isolated
    { s with bus := { s.bus with lastHeard := none } }))) := alarm_aside.safe.fanFollows rfl
  unfold enterIsolated
  dsimp only
  split
  · exact alarm_aside.holdTest (alarm_aside.zeroGrants hfan)
  · exact hfan

variable {c : Instr} {s t : State}

/-- ALARM follows after every move. -/
theorem Move.keeps_alarm (h : Move c s t) (hs : alarmFollows s) : alarmFollows t := by
  cases h
  case note | count | clear | sticky | stageSpeed | startPending | receiver | loses | endTransmission | announceTimer | placeAnnounce |
      placeIntent | placeReply | gate | decisionTimer | cancelPending | judgeOwnSensor | stagger | stageAdopt | offDelayEnds =>
    exact alarmFollows_congr hs (by simp) (by simp) (by simp) (by simp) (by simp) (by simp) (by simp) (by simp) (by simp)
      (by simp)
  case coldStart => unfold Machine.coldStart; dsimp only; split <;> rfl
  case configEnds =>
    unfold Machine.configEnds
    dsimp only
    split
    · rfl
    · exact alarmFollows_drivePhase _ _ _ rfl
  case warmStart => rfl
  case accepted | rejected => unfold putWindow; dsimp only; split <;> rfl
  case recompute => exact alarm_aside.safe.recompute hs
  case holdExpires => exact alarm_aside.safe.holdExpires hs
  case declareStall =>
    unfold Machine.declareStall
    dsimp only
    split
    · exact alarmFollows_forcedChange rfl
    · rfl
  case purges | stops => rfl
  case outcome => exact alarmFollows_setOutcome _ _ _
  case stageRequests => exact alarm_aside.holdTest (alarm_aside.driveDampers _ hs)
  case applyTarget => exact alarmFollows_applyMode _ hs
  case allocate => exact alarm_aside.safe.allocate _ _ hs
  case forcedChange => exact alarmFollows_forcedChange hs
  case slotExpires p h =>
    unfold Machine.slotExpires completeChange
    dsimp only
    split
    · cases p.kind
      · exact alarmFollows_setSpeed _ (alarmFollows_applyMode _ hs)
      · exact alarmFollows_applyMode _ hs
    · exact hs
  case accept | insert | coast | lose | free => exact alarm_aside.safe.reported.tableMove _ _ _ hs
  case phaseEnds p _ _ =>
    unfold Machine.phaseEnds
    dsimp only
    split
    · exact alarmFollows_drivePhase _ _ _ hs
    · exact alarmFollows_drivePhase _ _ _ (alarmFollows_setOutcome _ _ _)
    · exact alarmFollows_drivePhase _ _ _ hs
    · rfl
  case listenEnds => exact alarm_aside.safe.activateFan (alarm_aside.driveValve _ (alarm_aside.driveDampers _ rfl))
  case enterActive => exact alarm_aside.safe.allocateBoth rfl
  case enterIsolated => exact alarmFollows_enterIsolated s
  case rejoin => exact alarm_aside.safe.fanFollows rfl
  case judgeClash =>
    unfold Machine.judgeClash
    dsimp only
    split
    · rename_i hclash
      exact alarmFollows_congr hs (by simp) (by simp) (by simp) (by simp) (by simp) (by simp) (by simp) (by simp)
        (by simp [hclash]) (by simp)
    · exact alarm_aside.zeroGrants rfl
  case clashEnds =>
    unfold Machine.clashEnds
    dsimp only
    refine alarm_aside.safe.allocateBoth ?_
    split <;> rfl
  case stuck => exact alarm_aside.safe.fanFollows rfl
  case lineIdles =>
    have hunstick : alarmFollows (if s.bus.stuck = true then setStuck false s else s) := by
      split
      · exact alarm_aside.safe.fanFollows rfl
      · exact hs
    exact alarmFollows_congr hunstick (by simp) (by simp) (by simp) (by simp) (by simp) (by simp) (by simp) (by simp)
      (by simp) (by simp)

/-- Settles O17, by the moves: whatever makes a fault present or absent refreshes ALARM. -/
theorem alarmFollowsTheFaults : Obligations.AlarmFollowsTheFaults := by
  unfold Obligations.AlarmFollowsTheFaults
  refine ⟨fun s t => step_keeps (fun _ _ => id) (fun s hs => ?_) fun _ _ _ => Move.keeps_alarm, fun s => ?_⟩
  · exact hs
  · refine ⟨_, _, _, _, _, _, _, _, ?_, ?_, ?_, ?_, rfl, rfl, rfl, ?_, rfl, ?_⟩
    · simp [Windows.anyFailed]
    · simp [referenceFault]
    · simp
    · simp [Output.anyDamperFault]
    · simp
    · rw [alarmFollows, alarmDue, faultsPresent, Bool.eq_iff_iff]
      have hany (a b c d e f g h : Bool) : (⟨a, b, c, d, e, f, g, h⟩ : FaultSet) ≠ noFaults ↔
          (a || b || c || d || e || f || g || h) = true := by decide +revert
      simp [hany]

end Sys2Proof.Machine
end


-- ==== Sys2Proof/Proofs/Ordered.lean ====
section
/-! SUPPORT. The peer table and the intent list stay in order and within their size (R74, R121). -/

namespace Sys2Proof.Machine

/-! ### The records of the table -/

/-- Where no record is found, none has the address. -/
theorem address_ne_of_findRecord {a : Nat} {l : List PeerRecord} (h : findRecord a l = none) : ∀ r ∈ l, r.address ≠ a := by
  induction l with
  | nil => simp
  | cons x xs ih =>
    simp only [findRecord] at h
    split at h
    · cases h
    · simpa [*] using ih h

@[simp] theorem mem_insertRecord {r x : PeerRecord} {l : List PeerRecord} : x ∈ insertRecord r l ↔ x = r ∨ x ∈ l := by
  induction l with
  | nil => simp [insertRecord]
  | cons y ys ih =>
    unfold insertRecord
    split
    · simp
    · simp only [List.mem_cons, ih]
      tauto

@[simp] theorem length_insertRecord (r : PeerRecord) (l : List PeerRecord) : (insertRecord r l).length = l.length + 1 := by
  induction l with
  | nil => rfl
  | cons y ys ih =>
    unfold insertRecord
    split <;> simp [ih]

/-- Records in strictly ascending order of address. -/
abbrev Ascending (l : List PeerRecord) : Prop := l.Pairwise fun a b => a.address < b.address

theorem ascending_insertRecord {r : PeerRecord} {l : List PeerRecord} (h : Ascending l) (hnew : ∀ x ∈ l, x.address ≠ r.address) :
    Ascending (insertRecord r l) := by
  induction l with
  | nil => simp [insertRecord, Ascending]
  | cons y ys ih =>
    obtain ⟨hy, hys⟩ := List.pairwise_cons.mp h
    unfold insertRecord
    split
    · rename_i hlt
      refine List.pairwise_cons.mpr ⟨fun x hx => ?_, h⟩
      rcases List.mem_cons.mp hx with rfl | hx
      · exact hlt
      · exact hlt.trans (hy x hx)
    · refine List.pairwise_cons.mpr ⟨fun x hx => ?_, ih hys fun x hx => hnew x (List.mem_cons_of_mem _ hx)⟩
      rcases mem_insertRecord.mp hx with rfl | hx
      · have := hnew y List.mem_cons_self
        omega
      · exact hy x hx

/-- The addresses stay when a record is replaced in its place. -/
@[simp] theorem addresses_replaceRecord (r : PeerRecord) (l : List PeerRecord) :
    (replaceRecord r l).map PeerRecord.address = l.map PeerRecord.address := by
  unfold replaceRecord
  rw [List.map_map]
  refine List.map_congr_left fun x _ => ?_
  dsimp only [Function.comp]
  split <;> simp [*]

theorem ascending_iff_addresses (l : List PeerRecord) :
    Ascending l ↔ (l.map PeerRecord.address).Pairwise (· < ·) := List.pairwise_map.symm

/-! ### The table stays sound -/

/-- The records of a sound table, for a station at an address (R74). -/
structure RecordsSound (own : Nat) (l : List PeerRecord) : Prop where
  length : l.length ≤ 32
  ascending : Ascending l
  address : ∀ r ∈ l, 1 ≤ r.address ∧ r.address ≤ 63 ∧ r.address ≠ own

theorem tableSound_iff (s : State) : tableSound s ↔
    RecordsSound s.startUp.address s.table.records ∧ (s.startUp.lifecycle = .service → s.startUp.address = 0) :=
  ⟨fun ⟨hl, ha, hr, hs⟩ => ⟨⟨hl, ha, hr⟩, hs⟩, fun ⟨⟨hl, ha, hr⟩, hs⟩ => ⟨hl, ha, hr, hs⟩⟩

theorem RecordsSound.nil (own : Nat) : RecordsSound own [] := ⟨by simp, List.Pairwise.nil, by simp⟩

theorem RecordsSound.replace {own : Nat} {l : List PeerRecord} (h : RecordsSound own l) (r : PeerRecord) :
    RecordsSound own (replaceRecord r l) := by
  refine ⟨by simpa [replaceRecord] using h.length, ?_, fun x hx => ?_⟩
  · rw [ascending_iff_addresses, addresses_replaceRecord, ← ascending_iff_addresses]
    exact h.ascending
  · have hmem : x.address ∈ l.map PeerRecord.address := by
      rw [← addresses_replaceRecord r l]
      exact List.mem_map_of_mem hx
    obtain ⟨y, hy, hyx⟩ := List.mem_map.mp hmem
    rw [← hyx]
    exact h.address y hy

theorem RecordsSound.remove {own : Nat} {l : List PeerRecord} (h : RecordsSound own l) (a : Nat) :
    RecordsSound own (removeRecord a l) :=
  ⟨(List.length_filter_le _ _).trans h.length, h.ascending.filter _, fun r hr => h.address r (List.mem_of_mem_filter hr)⟩

theorem RecordsSound.insert {own : Nat} {l : List PeerRecord} (h : RecordsSound own l) {r : PeerRecord} (hroom : l.length < 32)
    (hnew : ∀ x ∈ l, x.address ≠ r.address) (hr : 1 ≤ r.address ∧ r.address ≤ 63 ∧ r.address ≠ own) :
    RecordsSound own (insertRecord r l) := by
  refine ⟨by simpa using hroom, ascending_insertRecord h.ascending hnew, fun x hx => ?_⟩
  rcases mem_insertRecord.mp hx with rfl | hx
  · exact hr
  · exact h.address x hx

/-- The records after an eviction have room for one more. -/
theorem length_removeRecord_lt {v : PeerRecord} {l : List PeerRecord} (h : v ∈ l) : (removeRecord v.address l).length < l.length :=
  List.length_filter_lt_length_iff_exists.mpr ⟨v, h, by simp⟩

variable {c : Instr} {s t : State}

/-- The table is sound as long as records and address stay and SERVICE is not entered. -/
theorem tableSound_congr (hs : tableSound s) (htable : t.table.records = s.table.records)
    (haddress : t.startUp.address = s.startUp.address)
    (hservice : t.startUp.lifecycle = .service → s.startUp.lifecycle = .service) : tableSound t := by
  unfold tableSound at *
  rw [htable, haddress]
  exact ⟨hs.1, hs.2.1, hs.2.2.1, fun h => hs.2.2.2 (hservice h)⟩

@[simp] theorem phaseEnds_lifecycle_ne (p : PolarityTest) (s : State) (h : s.startUp.lifecycle = .commission) :
    (phaseEnds p s).startUp.lifecycle ≠ .service := by
  unfold phaseEnds
  dsimp only
  split
  · simp [h]
  · simp [h]
  · simp [h]
  · simp [enterListen, setLifecycle]

/-- Every move keeps the table sound. -/
theorem Move.keeps_table (h : Move c s t) (hs : tableSound s) : tableSound t := by
  obtain ⟨hrecords, hservice⟩ := (tableSound_iff s).mp hs
  cases h
  case coldStart =>
    rw [tableSound_iff]
    unfold Machine.coldStart
    dsimp only
    split <;> exact ⟨.nil _, nofun⟩
  case configEnds h =>
    rw [tableSound_iff]
    unfold Machine.configEnds handConfiguration
    dsimp only
    split
    · rename_i h0
      exact ⟨.nil _, fun _ => by simpa using h0⟩
    · simp [drivePhase, setLifecycle, startTable]
      exact .nil _
  case warmStart => exact (tableSound_iff _).mpr ⟨.nil _, nofun⟩
  case accept old source gaps a h =>
    rw [tableSound_iff]
    simpa [acceptAnnounce, setRecords] using ⟨hrecords.replace _, hservice⟩
  case insert order evicted source a h0 h64 hown hnone hroom =>
    rw [tableSound_iff]
    have hnew := address_ne_of_findRecord hnone
    have hsource : 1 ≤ source ∧ source ≤ 63 ∧ source ≠ s.startUp.address :=
      ⟨by omega, by omega, hown.elim id fun h => by rw [hservice h]; exact h0⟩
    rcases hroom with ⟨rfl, hlength⟩ | ⟨v, hv, rfl⟩
    · simpa [insertNew] using ⟨hrecords.insert hlength hnew hsource, hservice⟩
    · have hlength := (length_removeRecord_lt hv).trans_le hrecords.length
      simpa [insertNew] using ⟨(hrecords.remove v.address).insert (r := recordFrom s.cfg source 0 a) hlength
        (fun x hx => hnew x (List.mem_of_mem_filter hx)) hsource, hservice⟩
  case coast => rw [tableSound_iff]; simpa [Machine.coast, setRecords] using ⟨hrecords.replace _, hservice⟩
  case lose => rw [tableSound_iff]; simpa [Machine.lose, setRecords] using ⟨hrecords.replace _, hservice⟩
  case free => rw [tableSound_iff]; simpa [Machine.free, setRecords] using ⟨hrecords.remove _, hservice⟩
  case phaseEnds p _ h => exact tableSound_congr hs (by simp) (by simp) fun h' => absurd h' (phaseEnds_lifecycle_ne p s h)
  case listenEnds | enterActive | enterIsolated | rejoin =>
    exact tableSound_congr hs (by simp) (by simp) (by simp)
  all_goals exact tableSound_congr hs (by simp) (by simp) (by simp)

/-! ### The intent list -/

@[simp] theorem mem_insertKey {k x : Key} {l : List Key} : x ∈ insertKey k l ↔ x = k ∨ x ∈ l := by
  induction l with
  | nil => simp [insertKey]
  | cons y ys ih =>
    unfold insertKey
    split
    · simp
    · simp only [List.mem_cons, ih]
      tauto

theorem Key.lower_trans {a b d : Key} (hab : a.lower b = true) (hbd : b.lower d = true) : a.lower d = true := by
  simp only [Key.lower, decide_eq_true_eq] at *
  omega

/-- Of two keys of different addresses one is the lower. -/
theorem Key.lower_total {a b : Key} (hne : a.address ≠ b.address) (h : ¬ a.lower b = true) : b.lower a = true := by
  simp only [Key.lower, decide_eq_true_eq] at *
  omega

/-- Keys in strictly ascending order, one for an address. -/
abbrev KeysAscending (l : List Key) : Prop := l.Pairwise fun a b => a.lower b = true ∧ a.address ≠ b.address

theorem keysAscending_insertKey {k : Key} {l : List Key} (h : KeysAscending l) (hnew : ∀ x ∈ l, x.address ≠ k.address) :
    KeysAscending (insertKey k l) := by
  induction l with
  | nil => simp [insertKey, KeysAscending]
  | cons y ys ih =>
    obtain ⟨hy, hys⟩ := List.pairwise_cons.mp h
    unfold insertKey
    split
    · rename_i hlt
      refine List.pairwise_cons.mpr ⟨fun x hx => ⟨?_, (hnew x hx).symm⟩, h⟩
      rcases List.mem_cons.mp hx with rfl | hx
      · exact hlt
      · exact Key.lower_trans hlt (hy x hx).1
    · rename_i hnlt
      refine List.pairwise_cons.mpr ⟨fun x hx => ?_, ih hys fun x hx => hnew x (List.mem_cons_of_mem _ hx)⟩
      rcases mem_insertKey.mp hx with rfl | hx
      · have hne := hnew y List.mem_cons_self
        exact ⟨Key.lower_total hne.symm hnlt, hne⟩
      · exact hy x hx

/-- A key that enters the list leaves it within 16 keys and in order (R121). -/
theorem keysAscending_takeKey (k : Key) {l : List Key} (h : KeysAscending l) :
    (takeKey k l).length ≤ 16 ∧ KeysAscending (takeKey k l) := by
  refine ⟨(List.length_take_le _ _), List.Pairwise.take (keysAscending_insertKey (h.filter _) fun x hx => ?_)⟩
  simpa using (List.mem_filter.mp hx).2

/-- Of a cancellation the intent list is that of before or empty (R125). -/
theorem intentsSound_cancelPending (hs : intentsSound s) : intentsSound (cancelPending s) := by
  unfold cancelPending
  split
  · simp [intentsSound, idleStagger]
  · exact hs

theorem intents_aside : Aside intentsSound where
  allocator _ _ := id
  table _ _ := id
  fan _ _ := id
  reconciler _ _ := id
  sticky _ _ := id
  driveDampers _ := by simp [intentsSound]
  driveValve _ := by simp [intentsSound]
  forcedChange s hs := by
    simpa [forcedChange, intentsSound] using intentsSound_cancelPending hs

theorem intentsSound_setOutcome (d : Damper) (o : Polarity) (hs : intentsSound s) : intentsSound (setOutcome d o s) := by
  have hrecord : intentsSound (recordOutcome d o s) := by simpa [intentsSound] using hs
  rw [setOutcome_eq]
  split
  · exact intents_aside.forcedChange _ hrecord
  · exact hrecord

/-- Every move keeps the intent list sound. -/
theorem Move.keeps_intents (h : Move c s t) (hs : intentsSound s) : intentsSound t := by
  have hidle (u : State) (hu : u.stagger.intents = []) : intentsSound u := by simp [intentsSound, hu]
  cases h
  case coldStart => apply hidle; unfold Machine.coldStart; dsimp only; split <;> rfl
  case configEnds => apply hidle; unfold Machine.configEnds; dsimp only; split <;> simp [handConfiguration, idleStagger]
  case warmStart => exact hidle _ rfl
  case recompute => exact intents_aside.safe.recompute hs
  case holdExpires => exact intents_aside.safe.holdExpires hs
  case declareStall =>
    unfold Machine.declareStall
    dsimp only
    split
    · exact intents_aside.forcedChange _ hs
    · exact hs
  case outcome => exact intentsSound_setOutcome _ _ hs
  case stageRequests => exact intents_aside.holdTest (by simpa [intentsSound] using hs)
  case cancelPending => exact intentsSound_cancelPending hs
  case startPending => exact hidle _ (by simp [Machine.startPending, idleStagger])
  case allocate => exact intents_aside.safe.allocate _ _ hs
  case forcedChange => exact intents_aside.forcedChange _ hs
  case slotExpires => exact hidle _ (by simp [Machine.slotExpires, idleStagger])
  case stagger g _ hi =>
    rcases hi with hsame | hempty | ⟨k, hk⟩
    · simpa [intentsSound, hsame] using hs
    · exact hidle _ hempty
    · simpa [intentsSound, hk] using keysAscending_takeKey k hs.2
  case accept | insert | coast | lose | free => exact intents_aside.safe.reported.tableMove _ _ _ hs
  case phaseEnds =>
    unfold Machine.phaseEnds
    dsimp only
    split
    · simpa [intentsSound] using hs
    · simpa [intentsSound] using intentsSound_setOutcome .bypass _ hs
    · simpa [intentsSound] using hs
    · simpa [intentsSound] using intentsSound_setOutcome .outdoor _ hs
  case enterActive => exact intents_aside.safe.allocateBoth hs
  case enterIsolated =>
    unfold Machine.enterIsolated
    dsimp only
    split
    · exact intents_aside.holdTest (intents_aside.zeroGrants (intents_aside.safe.fanFollows hs))
    · exact intents_aside.safe.fanFollows hs
  case judgeClash =>
    unfold Machine.judgeClash
    dsimp only
    split
    · exact hs
    · exact intents_aside.zeroGrants hs
  case clashEnds =>
    unfold Machine.clashEnds
    dsimp only
    refine intents_aside.safe.allocateBoth ?_
    split <;> exact hs
  all_goals simpa [intentsSound] using hs

/-- A millisecond leaves the addresses of the table. -/
theorem tableSound_tick (hs : tableSound s) : tableSound (tick s) := by
  obtain ⟨⟨hlength, hascending, haddress⟩, hservice⟩ := (tableSound_iff s).mp hs
  refine (tableSound_iff _).mpr ⟨⟨by simpa [tick] using hlength, ?_, fun r hr => ?_⟩, hservice⟩
  · simpa [tick, Ascending, List.pairwise_map] using hascending
  · obtain ⟨x, hx, rfl⟩ := List.mem_map.mp hr
    exact haddress x hx

/-- Settles O19, by the moves. -/
theorem tableAndIntentListStayOrdered : Obligations.TableAndIntentListStayOrdered := by
  unfold Obligations.TableAndIntentListStayOrdered
  exact ⟨fun _ _ => step_keeps (I := tableSound) (fun _ _ => id) (fun _ => tableSound_tick) fun _ _ _ => Move.keeps_table,
    fun _ _ => step_keeps (I := intentsSound) (fun _ _ => id) (fun _ => id) fun _ _ _ => Move.keeps_intents⟩

end Sys2Proof.Machine
end


-- ==== Sys2Proof/Proofs/Grants.lean ====
section
/-! SUPPORT. The grants in use stay within the own shares (R107), and ECONOMIZE within its hold condition (R19). -/

namespace Sys2Proof.Machine

variable {c : Instr} {s t : State}

/-! ### Grants within shares -/

/-- A grant in use is at most the own share, and 0 for a station that may hold none (R107). -/
def Allocation.GrantSound (a : Allocation) (eligible : Bool) : Prop :=
  a.grant ≤ a.ownShare ∧ (eligible = false → a.grant = 0)

theorem grantsSound_iff (s : State) : grantsSound s ↔ ∀ b, (s.allocator.get b).GrantSound (eligible s) := by
  unfold grantsSound Allocation.GrantSound State.grant
  exact ⟨fun h b => h b (by cases b <;> simp), fun h b _ => h b⟩

@[simp] theorem allocate_eligible (b : Budget) (s : State) : eligible (allocate b s) = eligible s := by simp [eligible]

/-- An allocation leaves its grant within the new share, and never raises it (R106, R108). -/
theorem grantsSound_allocate (b : Budget) (hs : grantsSound s) : grantsSound (allocate b s) := by
  rw [grantsSound_iff] at hs ⊢
  intro d
  rw [allocate_eligible]
  by_cases hd : d = b
  · subst d
    rw [allocate_get]
    refine ⟨Nat.min_le_right _ _, fun h => ?_⟩
    have h0 : s.grant b = 0 := (hs b).2 h
    simp [h0]
  · rw [allocate_get_other b d s hd]
    exact hs d

/-- The grants are sound as long as they stay and a station that may hold none could hold none before. -/
theorem grantsSound_congr (hs : grantsSound s) (hallocator : t.allocator = s.allocator)
    (heligible : eligible t = false → eligible s = false) : grantsSound t := by
  rw [grantsSound_iff] at hs ⊢
  rw [hallocator]
  exact fun b => ⟨(hs b).1, fun h => (hs b).2 (heligible h)⟩

theorem grants_safe : AllocationSafe grantsSound where
  allocate b _ := grantsSound_allocate b
  budget s v hs := by
    rw [grantsSound_iff] at hs ⊢
    intro b
    cases b
    · exact hs .relief
    · exact hs .wfc
  table _ _ := id
  fan _ _ := id
  reconciler _ _ := id
  sticky _ _ := id

/-- The zeroing of R109 leaves both grants 0. -/
theorem zeroGrants_grant (b : Budget) (s : State) : (zeroGrants s).grant b = 0 := by
  have hrelief : ((zeroGrant .wfc (zeroGrant .relief s)).allocator.get .relief).grant = 0 := by
    unfold zeroGrant
    rw [reduceGrant_get_other .wfc .relief _ (by decide)]
    simp [reduceGrant_get]
  have hwfc : ((zeroGrant .wfc (zeroGrant .relief s)).allocator.get .wfc).grant = 0 := by
    rw [zeroGrant_get]
  cases b
  · simp [State.grant, zeroGrants, allocateBoth, allocate_get_other .wfc .relief _ (by decide), allocate_get, hrelief]
  · simp [State.grant, zeroGrants, allocateBoth, allocate_get_other .relief .wfc _ (by decide), allocate_get, hwfc]

/-- Grants that are 0 are within any share. -/
theorem grantsSound_of_zero (h : ∀ b, s.grant b = 0) : grantsSound s :=
  fun b _ => ⟨by rw [h b]; exact Nat.zero_le _, fun _ => h b⟩

theorem grantsSound_startAllocator (cfg : Settings) (h : t.allocator = startAllocator cfg) : grantsSound t :=
  grantsSound_of_zero fun b => by cases b <;> simp [State.grant, h, startAllocator, startAllocation, Allocator.get]

/-- The adoption of stage 2: the own share, or 0 (R5). -/
theorem adopt_get (b d : Budget) (s : State) : (adopt b s).allocator.get d =
    if d = b then { s.allocator.get b with grant := if eligible s = true then (s.allocator.get b).ownShare else 0 }
    else s.allocator.get d := by
  unfold adopt
  by_cases h : d = b
  · subst d; simp
  · simp [h]

@[simp] theorem stageAdopt_get (b : Budget) (s : State) : (stageAdopt s).allocator.get b =
    { s.allocator.get b with grant := if eligible s = true then (s.allocator.get b).ownShare else 0 } := by
  have heligible : eligible (adopt .relief s) = eligible s := rfl
  have hget : (stageAdopt s).allocator = (adopt .wfc (adopt .relief s)).allocator := by simp [stageAdopt]
  rw [hget, adopt_get, adopt_get, heligible]
  cases b <;> simp [adopt_get]

theorem grantsSound_stageAdopt (s : State) : grantsSound (stageAdopt s) := by
  have heligible : eligible (stageAdopt s) = eligible s := by simp [eligible]
  rw [grantsSound_iff]
  intro b
  rw [stageAdopt_get, heligible]
  cases h : eligible s <;> simp [Allocation.GrantSound]

/-- A station that does not stand in ACTIVE may hold no share (R97). -/
theorem eligible_of_ne_active (h : s.startUp.lifecycle ≠ .active) : eligible s = false := by simp [eligible, h]

/-- Where the allocator starts again. -/
theorem configEnds_allocator (s : State) : (configEnds s).allocator = startAllocator s.cfg := by
  unfold configEnds; dsimp only; split <;> simp [handConfiguration, startScanTimer]

theorem warmStart_allocator (s : State) : (warmStart s).allocator = startAllocator s.cfg := by simp [warmStart, startScanTimer]

theorem coldStart_allocator (hi lo : Ratio) (record : List Byte) (s : State) :
    (coldStart hi lo record s).allocator = startAllocator defaultSettings := by
  unfold coldStart; dsimp only; split <;> rfl

/-- Every move keeps the grants sound. -/
theorem Move.keeps_grants (h : Move c s t) (hs : grantsSound s) : grantsSound t := by
  cases h
  case coldStart => exact grantsSound_startAllocator _ (coldStart_allocator _ _ _ _)
  case configEnds => exact grantsSound_startAllocator _ (configEnds_allocator _)
  case warmStart => exact grantsSound_startAllocator _ (warmStart_allocator _)
  case recompute => exact grants_safe.recompute hs
  case holdExpires => exact grants_safe.holdExpires hs
  case stageAdopt => exact grantsSound_stageAdopt s
  case allocate => exact grantsSound_allocate _ hs
  case accept | insert | coast | lose | free => exact grants_safe.reported.tableMove _ _ _ hs
  case phaseEnds h => exact grantsSound_congr hs (by simp) fun _ => eligible_of_ne_active (by simp [h])
  case listenEnds h => exact grantsSound_congr hs (by simp) fun _ => eligible_of_ne_active (by simp [h])
  case rejoin h => exact grantsSound_congr hs (by simp) fun _ => eligible_of_ne_active (by simp [h])
  case enterActive h =>
    refine grants_safe.allocateBoth (grantsSound_congr hs (by simp) fun _ => eligible_of_ne_active (by simp [h]))
  case enterIsolated h =>
    unfold Machine.enterIsolated
    dsimp only
    split
    · exact grantsSound_of_zero fun b => by simpa [State.grant] using zeroGrants_grant b _
    · exact grantsSound_congr hs (by simp) fun _ => eligible_of_ne_active ‹_›
  case judgeClash =>
    unfold Machine.judgeClash
    dsimp only
    split
    · rename_i hclash
      exact grantsSound_congr hs rfl fun _ => by simp [eligible, hclash]
    · exact grantsSound_of_zero fun b => zeroGrants_grant b _
  case clashEnds =>
    unfold Machine.clashEnds
    dsimp only
    refine grants_safe.allocateBoth (grantsSound_congr hs (by split <;> rfl) fun h => ?_)
    revert h
    split <;> simp +contextual [eligible]
  all_goals exact grantsSound_congr hs (by simp) (by simp [eligible])

/-! ### ECONOMIZE and its hold condition -/

/-- The hold test leaves ECONOMIZE only where its condition holds (R19). -/
theorem economizeHeld_holdTest (s : State) : economizeHeld (holdTest s) := by
  intro happlied
  unfold holdTest at happlied ⊢
  split at happlied
  · simp [forcedChange_engine] at happlied
  · rename_i hnot
    rw [if_neg hnot]
    simpa [happlied, holdCondition] using hnot

theorem economizeHeld_of_ne (h : s.engine.applied ≠ .economize) : economizeHeld s := fun h' => absurd h' h

/-- ECONOMIZE is held as long as mode, lifecycle state and configuration stay, the request does not rise and the grant does not fall. -/
theorem economizeHeld_congr (hs : economizeHeld s) (happlied : t.engine.applied = .economize → s.engine.applied = .economize)
    (hlifecycle : s.startUp.lifecycle = .active → t.startUp.lifecycle = .active)
    (hcfg : t.startUp.settings = s.startUp.settings) (hrequest : t.engine.reliefRequest ≤ s.engine.reliefRequest)
    (hgrant : s.grant .relief ≤ t.grant .relief) : economizeHeld t := fun h => by
  obtain ⟨hactive, hshare⟩ := hs (happlied h)
  refine ⟨hlifecycle hactive, ?_⟩
  have hmin : minShare t ≤ minShare s := by
    unfold minShare minUsefulShare State.cfg
    rw [hcfg]
    have := Nat.div_le_div_right (c := 100) (Nat.mul_le_mul_left s.startUp.settings.minUseful hrequest)
    omega
  omega

theorem economizeHeld_evaluateFan (hs : economizeHeld s) : economizeHeld (evaluateFan s) := by
  unfold evaluateFan
  split <;> exact hs

/-- A relief grant that is reduced is handed on with the hold test (R19, R108). -/
theorem economizeHeld_reduceGrant (b : Budget) (hs : economizeHeld s) : economizeHeld (reduceGrant b s) := by
  unfold reduceGrant
  dsimp only
  split
  · cases b
    case relief => exact economizeHeld_evaluateFan (economizeHeld_holdTest _)
    case wfc =>
      change economizeHeld (driveValve _)
      exact economizeHeld_congr hs (by simp) (by simp) (by simp) (by simp) (by simp [State.grant, Allocator.set, Allocator.get])
  · exact hs

theorem economizeHeld_allocate (b : Budget) (hs : economizeHeld s) : economizeHeld (allocate b s) := by
  refine economizeHeld_reduceGrant b (economizeHeld_congr hs id id rfl le_rfl ?_)
  cases b <;> exact le_rfl

theorem economize_safe : AllocationSafe economizeHeld where
  allocate b _ := economizeHeld_allocate b
  budget _ _ := id
  table _ _ := id
  fan _ _ := id
  reconciler _ _ := id
  sticky _ _ := id

/-- Stage 2 does not lower a sound grant: it takes the own share, or stays 0 (R5). -/
theorem grant_le_stageAdopt (b : Budget) (hs : grantsSound s) : s.grant b ≤ (stageAdopt s).grant b := by
  obtain ⟨hshare, hnone⟩ := (grantsSound_iff s).mp hs b
  simp only [State.grant, stageAdopt_get]
  split
  · exact hshare
  · rename_i hnot
    exact (hnone (by simpa using hnot)).le

/-- The frost rules move no ECONOMIZE and lead to none (R15). -/
theorem speedRules_economize (cfg : Settings) (exh outTemp : Option Int) (entered : Bool) (e : Engine) :
    (speedRules cfg exh outTemp entered e).applied = .economize → e.applied = .economize := by
  intro h
  have hpair := speedRules_inPair cfg exh outTemp entered e
  rw [h] at hpair
  have hnot : e.applied.inPair = false := hpair.symm
  unfold speedRules at h
  simpa [hnot] using h

theorem setSpeed_economize (entered : Bool) (s : State) :
    (setSpeed entered s).engine.applied = .economize → s.engine.applied = .economize := by
  simpa [setSpeed] using speedRules_economize _ _ _ entered s.engine

theorem economizeHeld_setOutcome (d : Damper) (o : Polarity) (hs : economizeHeld s) : economizeHeld (setOutcome d o s) := by
  rw [setOutcome_eq]
  split
  · exact economizeHeld_of_ne (by simp [forcedChange_engine])
  · exact economizeHeld_congr hs (by simp) (by simp) (by simp) (by simp) (by simp [State.grant])

/-- A staggered ECONOMIZE is applied only where it can be used (R18). -/
theorem economizeHeld_completeChange (k : ChangeKind) (hs : economizeHeld s) : economizeHeld (completeChange k s) := by
  unfold completeChange
  dsimp only
  split
  · rename_i hpasses
    cases k
    case wheelStart =>
      refine economizeHeld_of_ne fun h => ?_
      have := setSpeed_economize true _ h
      simp [applyMode_applied, ChangeKind.target, Target.mode] at this
    case econOpen =>
      intro _
      simp only [completionPasses, economizeAvailable, Bool.and_eq_true, decide_eq_true_eq] at hpasses
      obtain ⟨⟨hactive, -⟩, hshare⟩ := hpasses
      exact ⟨by simpa using hactive, by simpa [minShare, State.grant, State.cfg] using hshare⟩
  · exact hs

theorem applied_configEnds (s : State) : (configEnds s).engine.applied = .bypass := by
  unfold configEnds; dsimp only; split <;> simp [handConfiguration, startScanTimer, startEngine]

theorem applied_coldStart (hi lo : Ratio) (record : List Byte) (s : State) :
    (coldStart hi lo record s).engine.applied = .bypass := by
  unfold coldStart; dsimp only; split <;> rfl

/-- Every move keeps ECONOMIZE within its condition. -/
theorem Move.keeps_economize (h : Move c s t) (hgrants : grantsSound s) (hs : economizeHeld s) : economizeHeld t := by
  have hoff (hl : s.startUp.lifecycle ≠ .active) : s.engine.applied ≠ .economize := fun h => hl (hs h).1
  cases h
  case coldStart => exact economizeHeld_of_ne (by simp [applied_coldStart])
  case configEnds => exact economizeHeld_of_ne (by simp [applied_configEnds])
  case warmStart => exact economizeHeld_of_ne (by simp [Machine.warmStart, startScanTimer, startEngine])
  case recompute => exact economize_safe.recompute hs
  case holdExpires => exact economize_safe.holdExpires hs
  case declareStall =>
    unfold Machine.declareStall
    dsimp only
    split
    · exact economizeHeld_of_ne (by simp [forcedChange_engine])
    · exact hs
  case outcome => exact economizeHeld_setOutcome _ _ hs
  case stageAdopt =>
    exact economizeHeld_congr hs (by simp) (by simp) (by simp) (by simp) (grant_le_stageAdopt .relief hgrants)
  case stageRequests => exact economizeHeld_holdTest _
  case applyTarget m hm _ =>
    refine economizeHeld_of_ne ?_
    rw [applyMode_applied]
    rcases hm with rfl | ⟨rfl, -⟩ <;> decide
  case stageSpeed => exact economizeHeld_congr hs (setSpeed_economize _ _) (by simp) (by simp) (by simp) (by simp [State.grant])
  case allocate => exact economizeHeld_allocate _ hs
  case forcedChange => exact economizeHeld_of_ne (by simp [forcedChange_engine])
  case slotExpires => exact economizeHeld_completeChange _ hs
  case accept | insert | coast | lose | free => exact economize_safe.reported.tableMove _ _ _ hs
  case phaseEnds p _ h =>
    refine economizeHeld_of_ne fun happlied => hoff (by simp [h]) ?_
    revert happlied
    have hkept : (d : Damper) → (o : Polarity) → (setOutcome d o s).engine.applied = .economize → s.engine.applied = .economize := by
      intro d o
      rw [setOutcome_eq]
      split <;> simp [forcedChange_engine]
    unfold Machine.phaseEnds
    dsimp only
    split <;> simp <;> exact hkept _ _
  case listenEnds h => exact economizeHeld_of_ne (by simpa using hoff (by simp [h]))
  case rejoin h => exact economizeHeld_of_ne (by simpa [Machine.rejoin] using hoff (by simp [h]))
  case enterActive h =>
    exact economize_safe.allocateBoth (economizeHeld_of_ne (by simpa using hoff (by simp [h])))
  case enterIsolated =>
    unfold Machine.enterIsolated
    dsimp only
    split
    · exact economizeHeld_holdTest _
    · exact economizeHeld_of_ne (by simpa using hoff ‹_›)
  case judgeClash =>
    have hzero (b : Budget) (u : State) (hu : economizeHeld u) : economizeHeld (zeroGrant b u) := by
      refine economizeHeld_reduceGrant b (economizeHeld_congr hu id id rfl le_rfl ?_)
      cases b <;> exact le_rfl
    unfold Machine.judgeClash
    dsimp only
    split
    · exact hs
    · exact economize_safe.allocateBoth (hzero _ _ (hzero _ _ hs))
  case clashEnds =>
    unfold Machine.clashEnds
    dsimp only
    refine economize_safe.allocateBoth ?_
    split
    · exact economizeHeld_congr hs (by simp) (by simp) (by simp) (by simp) (by simp [State.grant])
    · exact hs
  all_goals exact economizeHeld_congr hs (by simp) (by simp) (by simp) (by simp) (by simp [State.grant])

/-- Settles O20, by the moves; an adopted share does not lower a grant that is sound. -/
theorem grantsStayWithinSharesAndHoldTheEconomizer : Obligations.GrantsStayWithinSharesAndHoldTheEconomizer := by
  unfold Obligations.GrantsStayWithinSharesAndHoldTheEconomizer
  refine ⟨fun s t => step_keeps (I := grantsSound) (fun _ _ => id) (fun _ => id) fun _ _ _ => Move.keeps_grants,
    fun s t hgrants hheld hstep => ?_⟩
  exact (step_keeps (I := fun u => grantsSound u ∧ economizeHeld u) (fun _ _ => id) (fun _ => id)
    (fun _ _ _ hm hu => ⟨hm.keeps_grants hu.1, hm.keeps_economize hu.1 hu.2⟩) ⟨hgrants, hheld⟩ hstep).2

end Sys2Proof.Machine
end


-- ==== Sys2Proof/Proofs/Allocations.lean ====
section
/-! SUPPORT. The recorded allocations are those of the present inputs (R94 to R101), and the budgets those of R95. -/

namespace Sys2Proof.Machine

variable {c : Instr} {s t : State}

/-! ### The participants as a list of entries -/

/-- The entry of a record in the participant list of a budget, none for a record outside the group (R96, R98). -/
def entryOf (policy : LostPolicy) (b : Budget) (r : PeerRecord) : Option Participant :=
  if r.memberOf b then some { address := r.address, request := peerEffective policy b r, share := none } else none

theorem participantsOf_eq (b : Budget) (s : State) : participantsOf b s =
    (insertParticipant { address := s.startUp.address, request := ownEffective b s, share := none }
      (s.table.records.filterMap (entryOf s.cfg.lostPolicy b))).filter fun p => decide (p.request ≠ 0) := by
  unfold participantsOf
  congr 2
  induction s.table.records with
  | nil => rfl
  | cons r rs ih =>
    by_cases hr : r.memberOf b = true
    · simp [hr, entryOf, ih]
    · simp [hr, entryOf, ih]

/-- The participants stay as long as address, configuration, own entry and the entries of the records stay. -/
theorem participantsOf_congr {b : Budget} (haddress : t.startUp.address = s.startUp.address)
    (hcfg : t.startUp.settings = s.startUp.settings) (hown : ownEffective b t = ownEffective b s)
    (hentries : t.table.records.filterMap (entryOf s.cfg.lostPolicy b) =
      s.table.records.filterMap (entryOf s.cfg.lostPolicy b)) : participantsOf b t = participantsOf b s := by
  simp only [participantsOf_eq, haddress, hown, State.cfg, hcfg] at *
  rw [hentries]

theorem ownEffective_congr {b : Budget} (heligible : eligible t = eligible s)
    (hrequest : t.engine.request b = s.engine.request b) (hcap : t.engine.cap b = s.engine.cap b) :
    ownEffective b t = ownEffective b s := by
  simp [ownEffective, heligible, hrequest, hcap]

theorem ownEffective_of_not_eligible {b : Budget} (h : eligible s = false) : ownEffective b s = 0 := by
  simp [ownEffective, h]

/-! ### A current allocation -/

/-- The recorded allocation of a budget is the one its inputs give now. -/
def CurrentFor (b : Budget) (s : State) : Prop :=
  (s.allocator.get b).participants = sharesOf b s ∧
  (s.allocator.get b).ownShare = shareOf s.startUp.address (s.allocator.get b).participants

theorem allocationsCurrent_iff (s : State) : allocationsCurrent s ↔ ∀ b, CurrentFor b s :=
  ⟨fun h b => h b (by cases b <;> simp), fun h b _ => h b⟩

/-- An allocation stays current as long as its record and its participants stay; the grant in use is no part of it. -/
theorem CurrentFor.congr {b : Budget} (hs : CurrentFor b s) (haddress : t.startUp.address = s.startUp.address)
    (hvalue : (t.allocator.get b).value = (s.allocator.get b).value)
    (hparticipants : (t.allocator.get b).participants = (s.allocator.get b).participants)
    (hshare : (t.allocator.get b).ownShare = (s.allocator.get b).ownShare)
    (hinputs : participantsOf b t = participantsOf b s) : CurrentFor b t := by
  obtain ⟨hps, hown⟩ := hs
  exact ⟨by rw [hparticipants, hps, sharesOf, sharesOf, hvalue, hinputs], by rw [hshare, hown, haddress, hparticipants]⟩

/-- The same for an operation that leaves the allocator and every input. -/
theorem CurrentFor.frame {b : Budget} (hs : CurrentFor b s) (haddress : t.startUp.address = s.startUp.address)
    (hcfg : t.startUp.settings = s.startUp.settings) (hrecords : t.table.records = s.table.records)
    (hallocator : t.allocator = s.allocator)
    (hown : ownEffective b t = ownEffective b s) : CurrentFor b t :=
  hs.congr haddress (by rw [hallocator]) (by rw [hallocator]) (by rw [hallocator])
    (participantsOf_congr haddress hcfg hown (by rw [hrecords]))

/-- The own entry is read from lifecycle state, clash, own requests and caps. -/
theorem ownEffective_frame (b : Budget) (hlifecycle : t.startUp.lifecycle = s.startUp.lifecycle)
    (hclash : t.bus.clash = s.bus.clash) (hrelief : t.engine.reliefRequest = s.engine.reliefRequest)
    (hreliefCap : t.engine.reliefCap = s.engine.reliefCap) (hwfc : t.engine.wfcRequest = s.engine.wfcRequest)
    (hwfcCap : t.engine.wfcCap = s.engine.wfcCap) : ownEffective b t = ownEffective b s :=
  ownEffective_congr (by simp [eligible, hlifecycle, hclash]) (by cases b <;> assumption) (by cases b <;> assumption)

@[simp] theorem participantsOf_allocate (b d : Budget) (s : State) : participantsOf b (allocate d s) = participantsOf b s :=
  participantsOf_congr (by simp) (by simp)
    (ownEffective_frame b (by simp) (by simp) (by simp) (by simp) (by simp) (by simp)) (by simp)

/-- An allocation is current when it is made (R100). -/
theorem currentFor_allocate (b : Budget) (s : State) : CurrentFor b (allocate b s) := by
  refine ⟨?_, ?_⟩
  · rw [allocate_get]
    simp [sharesOf, allocate_get]
  · rw [allocate_get]
    simp

/-- An allocation of any budget keeps an allocation current. -/
theorem CurrentFor.allocate {b : Budget} (d : Budget) (hs : CurrentFor b s) : CurrentFor b (allocate d s) := by
  by_cases hd : b = d
  · subst d
    exact currentFor_allocate b s
  · exact hs.congr (by simp) (by rw [allocate_get_other d b s hd]) (by rw [allocate_get_other d b s hd])
      (by rw [allocate_get_other d b s hd]) (by simp)

theorem currentFor_allocateBoth (b : Budget) (s : State) : CurrentFor b (allocateBoth s) := by
  cases b
  · exact (currentFor_allocate .relief s).allocate .wfc
  · exact currentFor_allocate .wfc _

/-- A new WFC budget is allocated at once (R95). -/
theorem CurrentFor.recompute_derate {b : Budget} (hs : CurrentFor b s) : CurrentFor b (derate s) := by
  unfold derate
  dsimp only
  split
  · exact hs
  · cases b
    · exact CurrentFor.allocate .wfc (hs.congr (s := s) rfl rfl rfl rfl rfl)
    · exact currentFor_allocate .wfc _

theorem CurrentFor.reportReference {b : Budget} (before : Reference) (hs : CurrentFor b s) :
    CurrentFor b (reportReference before s) := by
  unfold Machine.reportReference
  split
  · exact hs
  · exact hs.recompute_derate

theorem CurrentFor.recompute {b : Budget} (hs : CurrentFor b s) : CurrentFor b (recompute s) :=
  CurrentFor.reportReference (s := refreshAlarm { s with reconciler := recomputed (mins s.cfg.holdLimit) (candidates s) s.reconciler })
    _ hs

/-! ### The reports of the table (R101) -/

/-- The allocation a report starts for a budget. -/
def Report.allocates (p : Report) : Budget → Bool
  | .relief => p.relief
  | .wfc => p.wfc

/-- The allocations of a report make current what they start, and keep the rest. -/
theorem currentFor_reportAllocate {b : Budget} (p : Report) (hs : p.allocates b = false → CurrentFor b s) :
    CurrentFor b (reportAllocate p s) := by
  unfold reportAllocate
  dsimp only
  cases b
  case relief =>
    have hrelief : CurrentFor .relief (if p.relief = true then allocate .relief s else s) := by
      split
      · exact currentFor_allocate .relief s
      · rename_i hp
        exact hs (by simpa [Report.allocates] using hp)
    split
    · exact hrelief.allocate .wfc
    · exact hrelief
  case wfc =>
    split
    · exact currentFor_allocate .wfc _
    · rename_i hp
      have hwfc : CurrentFor .wfc s := hs (by simpa [Report.allocates] using hp)
      split
      · exact hwfc.allocate .relief
      · exact hwfc

theorem CurrentFor.reportRecompute {b : Budget} (p : Report) (hs : CurrentFor b s) : CurrentFor b (reportRecompute p s) := by
  unfold Machine.reportRecompute
  split
  · exact hs.recompute
  · exact hs

theorem CurrentFor.evaluateFan {b : Budget} (hs : CurrentFor b s) : CurrentFor b (evaluateFan s) :=
  hs.frame (by simp) (by simp) (by simp) (by simp)
    (ownEffective_frame b (by simp) (by simp) (by simp) (by simp) (by simp) (by simp))

theorem CurrentFor.holdTest {b : Budget} (hs : CurrentFor b s) : CurrentFor b (holdTest s) :=
  hs.frame (by simp) (by simp) (by simp) (by simp)
    (ownEffective_frame b (by simp) (by simp) (by simp) (by simp) (by simp) (by simp))

/-- After the reports of a change every allocation is current that was so, or that the report starts (R101, R102). -/
theorem currentFor_reportChange {b : Budget} (order : ReportOrder) (p : Report) (hs : p.allocates b = false → CurrentFor b s) :
    CurrentFor b (reportChange order p s) := by
  have hboth : CurrentFor b (match order with
      | .reconcilerFirst => reportAllocate p (reportRecompute p s)
      | .allocatorFirst => reportRecompute p (reportAllocate p s)) := by
    cases order
    · exact currentFor_reportAllocate p fun hp => (hs hp).reportRecompute p
    · exact (currentFor_reportAllocate p hs).reportRecompute p
  unfold reportChange
  dsimp only
  split
  · exact hboth.evaluateFan
  · exact hboth

/-- A table change keeps an allocation current when the entries stay, or the report starts it. -/
theorem CurrentFor.tableMove {b : Budget} (hs : CurrentFor b s) (order : ReportOrder) (p : Report) (x : PeerTable)
    (hentries : p.allocates b = false → x.records.filterMap (entryOf s.cfg.lostPolicy b) =
      s.table.records.filterMap (entryOf s.cfg.lostPolicy b)) : CurrentFor b (reportChange order p { s with table := x }) :=
  currentFor_reportChange order p fun hp => hs.congr rfl rfl rfl rfl (participantsOf_congr rfl rfl rfl (hentries hp))

/-- In a table in order a record is the only one of its address. -/
theorem Ascending.eq_of_address {l : List PeerRecord} (h : Ascending l) {a b : PeerRecord} (ha : a ∈ l) (hb : b ∈ l)
    (hab : a.address = b.address) : a = b := by
  induction l with
  | nil => cases ha
  | cons x xs ih =>
    obtain ⟨hx, hxs⟩ := List.pairwise_cons.mp h
    rcases List.mem_cons.mp ha with rfl | ha' <;> rcases List.mem_cons.mp hb with rfl | hb'
    · rfl
    · exact absurd hab (hx b hb').ne
    · exact absurd hab.symm (hx a ha').ne
    · exact ih hxs ha' hb'

/-- The entries stay when a record is replaced by one of the same entry. -/
theorem filterMap_replaceRecord {policy : LostPolicy} {b : Budget} {l : List PeerRecord} (h : Ascending l) {old new : PeerRecord}
    (hold : old ∈ l) (haddress : new.address = old.address) (hentry : entryOf policy b new = entryOf policy b old) :
    (replaceRecord new l).filterMap (entryOf policy b) = l.filterMap (entryOf policy b) := by
  unfold replaceRecord
  rw [List.filterMap_map]
  refine List.filterMap_congr fun x hx => ?_
  dsimp only [Function.comp]
  split
  · rename_i hxa
    rw [hentry, h.eq_of_address hold hx (haddress.symm.trans hxa.symm)]
  · rfl

/-- The entries stay when a record without an entry goes. -/
theorem filterMap_removeRecord {policy : LostPolicy} {b : Budget} {l : List PeerRecord} (h : Ascending l) {v : PeerRecord}
    (hv : v ∈ l) (hentry : entryOf policy b v = none) :
    (removeRecord v.address l).filterMap (entryOf policy b) = l.filterMap (entryOf policy b) := by
  unfold removeRecord
  rw [List.filterMap_filter]
  refine List.filterMap_congr fun x hx => ?_
  split
  · rfl
  · rename_i hxa
    rw [h.eq_of_address hx hv (by simpa using hxa), hentry]

/-- The entries stay when a record without an entry comes. -/
theorem filterMap_insertRecord {policy : LostPolicy} {b : Budget} {r : PeerRecord} (l : List PeerRecord)
    (hentry : entryOf policy b r = none) : (insertRecord r l).filterMap (entryOf policy b) = l.filterMap (entryOf policy b) := by
  induction l with
  | nil => simp [insertRecord, hentry]
  | cons y ys ih =>
    unfold insertRecord
    split
    · simp [hentry]
    · simp [List.filterMap_cons, ih]

theorem entryOf_of_not_member {policy : LostPolicy} {b : Budget} {r : PeerRecord} (h : r.memberOf b = false) :
    entryOf policy b r = none := by simp [entryOf, h]

/-- An accepted ANNOUNCE that starts no allocation of a budget leaves the entry of its record (R101). -/
theorem entryOf_of_acceptReport {policy : LostPolicy} {b : Budget} {old new : PeerRecord} (haddress : new.address = old.address)
    (h : (acceptReport old new).allocates b = false) : entryOf policy b new = entryOf policy b old := by
  cases b <;>
  · simp only [acceptReport, Report.allocates, PeerRecord.memberOf, Bool.and_eq_false_iff, Bool.or_eq_false_iff,
      decide_eq_false_iff_not, not_or, not_not] at h
    rcases h with ⟨hold, hnew⟩ | ⟨⟨⟨⟨⟨hriser, hplant⟩, hstate⟩, hflag⟩, hrequest⟩, hcap⟩
    · simp [entryOf, PeerRecord.memberOf, hold, hnew]
    · simp only [entryOf, PeerRecord.memberOf, peerEffective, haddress, hriser, hplant, hstate, hflag, hrequest, hcap]

/-- Where the participants start again, none requests anything. -/
theorem currentFor_start {b : Budget} {cfg : Settings} (hallocator : s.allocator = startAllocator cfg)
    (htable : s.table.records = []) (hlifecycle : s.startUp.lifecycle ≠ .active) : CurrentFor b s := by
  have hown : ownEffective b s = 0 := ownEffective_of_not_eligible (eligible_of_ne_active hlifecycle)
  have hnone : participantsOf b s = [] := by simp [participantsOf_eq, htable, hown, insertParticipant]
  cases b <;> simp [CurrentFor, sharesOf, hnone, hallocator, startAllocator, startAllocation, Allocator.get, divide, sumRequests,
    shareOf]

theorem table_configEnds (s : State) : (configEnds s).table = startTable := by
  unfold configEnds; dsimp only; split <;> simp [handConfiguration, startScanTimer]

theorem table_coldStart (hi lo : Ratio) (record : List Byte) (s : State) : (coldStart hi lo record s).table = startTable := by
  unfold coldStart; dsimp only; split <;> rfl

theorem lifecycle_coldStart (hi lo : Ratio) (record : List Byte) (s : State) :
    (coldStart hi lo record s).startUp.lifecycle = .config := by
  unfold coldStart; dsimp only; split <;> rfl

theorem lifecycle_configEnds (s : State) : (configEnds s).startUp.lifecycle =
    if s.startUp.address = 0 then .service else .commission := by
  unfold configEnds; dsimp only; split <;> simp [drivePhase]

theorem lifecycle_phaseEnds (p : PolarityTest) (s : State) (h : s.startUp.lifecycle = .commission) :
    (phaseEnds p s).startUp.lifecycle = if p.phase = .outdoorHigh then .listen else .commission := by
  unfold phaseEnds
  dsimp only
  split <;> simp [*]

/-- Every move but stage 5 keeps the allocations current: a change of an input is allocated within the move. -/
theorem Move.keeps_current (h : Move c s t) (hc : ∀ order, c ≠ .decision order) (htable : tableSound s) (b : Budget)
    (hs : CurrentFor b s) : CurrentFor b t := by
  have hascending := htable.2.1
  have hineligible (u : State) (h : s.startUp.lifecycle ≠ .active) (h' : u.startUp.lifecycle ≠ .active) :
      ownEffective b u = ownEffective b s := by
    rw [ownEffective_of_not_eligible (eligible_of_ne_active h), ownEffective_of_not_eligible (eligible_of_ne_active h')]
  cases h
  case coldStart =>
    exact currentFor_start (coldStart_allocator _ _ _ _) (by rw [table_coldStart]; rfl) (by simp [lifecycle_coldStart])
  case configEnds =>
    refine currentFor_start (configEnds_allocator _) (by rw [table_configEnds]; rfl) ?_
    rw [lifecycle_configEnds]
    split <;> decide
  case warmStart => exact currentFor_start (warmStart_allocator _) rfl (by simp)
  case recompute => exact hs.recompute
  case holdExpires => exact CurrentFor.reportReference (s := setSticky .reference _) _ hs
  case stageAdopt order h => exact absurd h (hc order)
  case stageRequests order h => exact absurd h (hc order)
  case allocate => exact hs.allocate _
  case accept order old source gaps a h =>
    obtain ⟨hmem, -⟩ := findRecord_spec h
    exact hs.tableMove _ _ _ fun hp => filterMap_replaceRecord hascending hmem rfl (entryOf_of_acceptReport rfl hp)
  case insert order evicted source a h0 h64 hown hnone hroom =>
    refine hs.tableMove _ _ _ fun hp => ?_
    have hnew : (recordFrom s.cfg source 0 a).memberOf b = false := by
      cases b <;> simp_all [Report.allocates, PeerRecord.memberOf]
    rw [filterMap_insertRecord _ (entryOf_of_not_member hnew)]
    rcases hroom with ⟨rfl, -⟩ | ⟨v, hv, rfl⟩
    · rfl
    · refine filterMap_removeRecord hascending hv (entryOf_of_not_member ?_)
      cases b <;> simp_all [Report.allocates, PeerRecord.memberOf]
  case coast r source h _ =>
    obtain ⟨hmem, -⟩ := findRecord_spec h
    refine hs.tableMove _ _ _ fun hp => filterMap_replaceRecord hascending hmem rfl ?_
    have hout : r.memberOf b = false := by cases b <;> exact hp
    rw [entryOf_of_not_member hout, entryOf_of_not_member (by cases b <;> exact hp)]
  case lose r source h _ =>
    obtain ⟨hmem, -⟩ := findRecord_spec h
    refine hs.tableMove _ _ _ fun hp => filterMap_replaceRecord hascending hmem rfl ?_
    have hout : r.memberOf b = false := by cases b <;> exact hp
    rw [entryOf_of_not_member hout, entryOf_of_not_member (by cases b <;> exact hp)]
  case free r source h _ =>
    obtain ⟨hmem, -⟩ := findRecord_spec h
    exact hs.tableMove _ _ _ fun hp => filterMap_removeRecord hascending hmem
      (entryOf_of_not_member (by cases b <;> exact hp))
  case phaseEnds p _ h =>
    refine hs.frame (by simp) (by simp) (by simp) (by simp) (hineligible _ (by simp [h]) ?_)
    rw [lifecycle_phaseEnds p s h]
    split <;> decide
  case listenEnds h => exact hs.frame (by simp) (by simp) (by simp) (by simp) (hineligible _ (by simp [h]) (by simp))
  case rejoin h =>
    exact hs.frame (by simp) (by simp) (by simp) (by simp) (hineligible _ (by simp [h]) (by simp))
  case enterActive => exact currentFor_allocateBoth b _
  case enterIsolated h =>
    unfold Machine.enterIsolated
    dsimp only
    split
    · exact CurrentFor.holdTest (currentFor_allocateBoth b _)
    · exact hs.frame (by simp) (by simp) (by simp) (by simp) (hineligible _ ‹_› (by simp))
  case judgeClash =>
    unfold Machine.judgeClash
    dsimp only
    split
    · rename_i hclash
      exact hs.frame rfl rfl rfl rfl (ownEffective_frame b rfl (by simp [hclash]) rfl rfl rfl rfl)
    · exact currentFor_allocateBoth b _
  case clashEnds => exact currentFor_allocateBoth b _
  all_goals
    exact hs.frame (by simp) (by simp) (by simp) (by simp)
      (ownEffective_frame b (by simp) (by simp) (by simp) (by simp) (by simp) (by simp))

/-! ### The decision (R9, R100) -/

theorem caps_stageRequests (s : State) : (stageRequests s).engine.reliefCap = reliefCapOf s.cfg.fmin s.cfg.qs ∧
    (stageRequests s).engine.wfcCap = s.cfg.lc := by
  simp [stageRequests]

/-- The caps after the stages are those of the configuration (R9). -/
theorem caps_decisionStages (s : State) : (decisionStages s).engine.reliefCap = reliefCapOf s.cfg.fmin s.cfg.qs ∧
    (decisionStages s).engine.wfcCap = s.cfg.lc := by
  simp [decisionStages, caps_stageRequests, State.cfg]

theorem decisionStages_get (b : Budget) (s : State) : (decisionStages s).allocator.get b = (stageAdopt (stageDwell s)).allocator.get b := by
  simp [decisionStages]

/-- The stages leave the allocations current, but for a change of a request. -/
theorem CurrentFor.decisionStages {b : Budget} (hcaps : capsFollow s) (hs : CurrentFor b s)
    (hrequest : (decisionStages s).engine.request b = s.engine.request b) : CurrentFor b (decisionStages s) := by
  have hget : (Machine.decisionStages s).allocator.get b = { s.allocator.get b with
      grant := if eligible (stageDwell s) = true then (s.allocator.get b).ownShare else 0 } := by
    rw [decisionStages_get, stageAdopt_get]
    simp
  have heligible : eligible (Machine.decisionStages s) = eligible s := by simp [eligible]
  refine hs.congr (by simp) (by rw [hget]) (by rw [hget]) (by rw [hget]) (participantsOf_congr (by simp) (by simp) ?_ (by simp))
  cases hactive : eligible s
  · rw [ownEffective_of_not_eligible hactive, ownEffective_of_not_eligible (heligible.trans hactive)]
  · refine ownEffective_congr heligible hrequest ?_
    obtain ⟨hrelief, hwfc⟩ := hcaps (by simp [eligible] at hactive; simp [hactive])
    obtain ⟨hrelief', hwfc'⟩ := caps_decisionStages s
    cases b
    · exact hrelief'.trans hrelief.symm
    · exact hwfc'.trans hwfc.symm

/-- The allocations after a decision make current what a changed request started, and keep the rest (R9, R100). -/
theorem currentFor_allocateChanged {b : Budget} (before : Engine)
    (hs : s.engine.request b = before.request b → CurrentFor b s) : CurrentFor b (allocateChanged before s) := by
  unfold allocateChanged
  dsimp only
  cases b
  case relief =>
    split
    · split
      · exact hs ‹_›
      · exact (hs ‹_›).allocate .wfc
    · split
      · exact currentFor_allocate .relief _
      · exact (currentFor_allocate .relief _).allocate .wfc
  case wfc =>
    split <;> split
    · exact hs ‹_›
    · exact currentFor_allocate .wfc _
    · rename_i hwfc
      exact (hs (by simpa [Engine.request] using hwfc)).allocate .relief
    · exact currentFor_allocate .wfc _

/-- After a decision both allocations are current. -/
theorem currentFor_decide {b : Budget} (hcaps : capsFollow s) (hs : CurrentFor b s) : CurrentFor b (decide_ s) :=
  currentFor_allocateChanged _ (hs.decisionStages hcaps)

theorem CurrentFor.applyJudgements {b : Budget} (judged : State) (hs : CurrentFor b s) : CurrentFor b (applyJudgements judged s) :=
  hs.frame (by simp) (by simp) (by simp) (by simp)
    (ownEffective_frame b (by simp) (by simp) (by simp) (by simp) (by simp) (by simp))

/-- An expiry of the decision timer keeps the allocations current, in either order. -/
theorem CurrentFor.decisionExpires {b : Budget} (order : DecisionOrder) (hcaps : capsFollow s) (hs : CurrentFor b s) :
    CurrentFor b (decisionExpires order s) := by
  cases order
  case judgementFirst =>
    refine currentFor_decide (s := Machine.applyJudgements _ _) ?_ (CurrentFor.applyJudgements _ (s := { s with
      engine := { s.engine with decisionTimer := some (secs s.cfg.decisionPeriod) } }) hs)
    intro h
    simpa [State.cfg] using hcaps (by simpa using h)
  case stagesFirst =>
    exact (currentFor_decide (s := { s with
      engine := { s.engine with decisionTimer := some (secs s.cfg.decisionPeriod) } }) hcaps hs).applyJudgements _

/-! ### Caps and budgets -/

theorem engine_configEnds (s : State) : (configEnds s).engine = startEngine s.cfg := by
  unfold configEnds; dsimp only; split <;> simp [handConfiguration, startScanTimer]

/-- Every move keeps the caps at those of the configuration. -/
theorem Move.keeps_caps (h : Move c s t) (hs : capsFollow s) : capsFollow t := by
  have hcongr (hlifecycle : t.startUp.lifecycle ≠ .config → s.startUp.lifecycle ≠ .config)
      (hcfg : t.startUp.settings = s.startUp.settings) (hrelief : t.engine.reliefCap = s.engine.reliefCap)
      (hwfc : t.engine.wfcCap = s.engine.wfcCap) : capsFollow t := fun h => by
    unfold State.cfg
    rw [hcfg, hrelief, hwfc]
    exact hs (hlifecycle h)
  cases h
  case coldStart => exact fun h => absurd (lifecycle_coldStart _ _ _ _) h
  case configEnds => exact fun _ => by simp [engine_configEnds, startEngine, State.cfg]
  case warmStart => exact fun _ => by simp [Machine.warmStart, startScanTimer, startEngine, State.cfg]
  case stageRequests => exact fun _ => by simp [caps_stageRequests, State.cfg]
  case phaseEnds p _ h => exact hcongr (fun _ => by simp [h]) (by simp) (by simp) (by simp)
  case listenEnds h => exact hcongr (fun _ => by simp [h]) (by simp) (by simp) (by simp)
  case enterActive h => exact hcongr (fun _ => by simp [h]) (by simp) (by simp [Machine.enterActive]) (by simp [Machine.enterActive])
  case rejoin h => exact hcongr (fun _ => by simp [h]) (by simp) (by simp) (by simp)
  case enterIsolated h =>
    exact hcongr (fun _ => by rcases h with h | h <;> simp [h]) (by simp) (by simp) (by simp)
  all_goals exact hcongr (by simp) (by simp) (by simp) (by simp)

@[simp] theorem allocate_value (b d : Budget) (s : State) :
    ((allocate b s).allocator.get d).value = (s.allocator.get d).value := by
  by_cases h : d = b
  · subst d; rw [allocate_get]
  · rw [allocate_get_other b d s h]

/-- The budget values after a derating (R95). -/
theorem derate_value (s : State) : ((derate s).allocator.get .relief).value = (s.allocator.get .relief).value ∧
    ((derate s).allocator.get .wfc).value =
      wfcBudget s.cfg.cnom s.cfg.hOn s.cfg.hOff (s.reconciler.reference.point.map OutdoorPoint.h) := by
  unfold derate
  dsimp only
  split
  · rename_i h
    exact ⟨rfl, h.symm⟩
  · exact ⟨allocate_value _ _ _, allocate_value _ _ _⟩

theorem budgetsFollow_congr (hs : budgetsFollow s) (hlifecycle : t.startUp.lifecycle ≠ .config → s.startUp.lifecycle ≠ .config)
    (hcfg : t.startUp.settings = s.startUp.settings) (hrelief : (t.allocator.get .relief).value = (s.allocator.get .relief).value)
    (hwfc : (t.allocator.get .wfc).value = (s.allocator.get .wfc).value)
    (hreference : t.reconciler.reference = s.reconciler.reference) : budgetsFollow t := fun h => by
  unfold State.cfg
  rw [hcfg, hreference]
  exact ⟨hrelief.trans (hs (hlifecycle h)).1, hwfc.trans (hs (hlifecycle h)).2⟩

/-- A reported reference leaves the budgets those of R95: it is derated when it has changed (R70). -/
theorem budgetsFollow_reportReference (u : State) (hs : budgetsFollow s) (hlifecycle : u.startUp.lifecycle = s.startUp.lifecycle)
    (hcfg : u.startUp.settings = s.startUp.settings) (hallocator : u.allocator = s.allocator) :
    budgetsFollow (reportReference s.reconciler.reference u) := by
  unfold reportReference
  split
  · exact budgetsFollow_congr hs (by rw [hlifecycle]; exact id) hcfg (by rw [hallocator]) (by rw [hallocator]) ‹_›
  · intro h
    obtain ⟨hrelief, hwfc⟩ := derate_value u
    refine ⟨?_, by simpa [State.cfg, Allocator.get] using hwfc⟩
    refine hrelief.trans ?_
    rw [hallocator]
    simpa [Allocator.get, State.cfg, hcfg] using (hs (by simpa [hlifecycle] using h)).1

theorem budgets_reported : ReportSafe budgetsFollow where
  allocate b s hs := budgetsFollow_congr hs (by simp) (by simp) (by simp) (by simp) (by simp)
  recompute s hs := budgetsFollow_reportReference _ hs rfl rfl rfl
  table _ _ := id
  fan _ _ := id

@[simp] theorem zeroGrants_value (b : Budget) (s : State) :
    ((zeroGrants s).allocator.get b).value = (s.allocator.get b).value := by
  have hzero (d : Budget) (u : State) : ((zeroGrant d u).allocator.get b).value = (u.allocator.get b).value := by
    by_cases h : b = d
    · subst b; rw [zeroGrant_get]
    · unfold zeroGrant
      rw [reduceGrant_get_other d b _ h]
      simp [h]
  simp [zeroGrants, allocateBoth, hzero]

/-- Every move keeps the budgets those of R95. -/
theorem Move.keeps_budgets (h : Move c s t) (hs : budgetsFollow s) : budgetsFollow t := by
  cases h
  case coldStart => exact fun h => absurd (lifecycle_coldStart _ _ _ _) h
  case configEnds =>
    have hreference : (Machine.configEnds s).reconciler = startReconciler := by
      unfold Machine.configEnds; dsimp only; split <;> simp [handConfiguration, startScanTimer]
    intro _
    simp [configEnds_allocator, hreference, startAllocator, startAllocation, startReconciler, Reference.point, wfcBudget,
      State.cfg]
  case warmStart =>
    have hreference : (Machine.warmStart s).reconciler = startReconciler := by simp [Machine.warmStart, startScanTimer]
    intro _
    simp [warmStart_allocator, hreference, startAllocator, startAllocation, startReconciler, Reference.point, wfcBudget,
      State.cfg]
  case recompute => exact budgets_reported.recompute _ hs
  case holdExpires => exact budgetsFollow_reportReference _ hs rfl rfl rfl
  case stageAdopt => exact budgetsFollow_congr hs (by simp) (by simp) (by simp) (by simp) (by simp)
  case allocate => exact budgets_reported.allocate _ _ hs
  case accept | insert | coast | lose | free => exact budgets_reported.tableMove _ _ _ hs
  case phaseEnds p _ h => exact budgetsFollow_congr hs (fun _ => by simp [h]) (by simp) (by simp) (by simp) (by simp)
  case listenEnds h => exact budgetsFollow_congr hs (fun _ => by simp [h]) (by simp) (by simp) (by simp) (by simp)
  case rejoin h => exact budgetsFollow_congr hs (fun _ => by simp [h]) (by simp) (by simp) (by simp) (by simp)
  case enterActive h =>
    exact budgetsFollow_congr hs (fun _ => by simp [h]) (by simp) (by simp [Machine.enterActive, allocateBoth])
      (by simp [Machine.enterActive, allocateBoth]) (by simp)
  case enterIsolated h =>
    refine budgetsFollow_congr hs (fun _ => by rcases h with h | h <;> simp [h]) (by simp) ?_ ?_ (by simp) <;>
    · unfold Machine.enterIsolated
      dsimp only
      split <;> simp
  case judgeClash =>
    refine budgetsFollow_congr hs (by simp) (by simp) ?_ ?_ (by simp) <;>
    · unfold Machine.judgeClash
      dsimp only
      split <;> simp
  case clashEnds =>
    refine budgetsFollow_congr hs (by simp) (by simp) ?_ ?_ (by simp) <;>
    · unfold Machine.clashEnds allocateBoth
      dsimp only
      split <;> simp
  all_goals exact budgetsFollow_congr hs (by simp) (by simp) (by simp) (by simp) (by simp)

/-! ### The participants (R96 to R99) -/

@[simp] theorem mem_insertParticipant {p x : Participant} {l : List Participant} :
    x ∈ insertParticipant p l ↔ x = p ∨ x ∈ l := by
  induction l with
  | nil => simp [insertParticipant]
  | cons y ys ih =>
    unfold insertParticipant
    split
    · simp
    · simp only [List.mem_cons, ih]
      tauto

theorem pairwise_insertParticipant {p : Participant} {l : List Participant}
    (h : l.Pairwise fun a b => a.address < b.address) (hnew : ∀ x ∈ l, x.address ≠ p.address) :
    (insertParticipant p l).Pairwise fun a b => a.address < b.address := by
  induction l with
  | nil => simp [insertParticipant]
  | cons y ys ih =>
    obtain ⟨hy, hys⟩ := List.pairwise_cons.mp h
    unfold insertParticipant
    split
    · rename_i hlt
      refine List.pairwise_cons.mpr ⟨fun x hx => ?_, h⟩
      rcases List.mem_cons.mp hx with rfl | hx
      · exact hlt
      · exact hlt.trans (hy x hx)
    · refine List.pairwise_cons.mpr ⟨fun x hx => ?_, ih hys fun x hx => hnew x (List.mem_cons_of_mem _ hx)⟩
      rcases mem_insertParticipant.mp hx with rfl | hx
      · have := hnew y List.mem_cons_self
        omega
      · exact hy x hx

/-- The members of the group of a budget. -/
def membersOf (b : Budget) (s : State) : List PeerRecord := s.table.records.filter fun r => r.memberOf b

/-- A participant is the own entry or that of a member, and requests something. -/
theorem mem_participantsOf {b : Budget} {p : Participant} : p ∈ participantsOf b s ↔ p.request ≠ 0 ∧
    (p = { address := s.startUp.address, request := ownEffective b s, share := none } ∨
      ∃ r ∈ membersOf b s, p = { address := r.address, request := peerEffective s.cfg.lostPolicy b r, share := none }) := by
  unfold participantsOf membersOf
  simp only [List.mem_filter, mem_insertParticipant, List.mem_map, decide_eq_true_eq]
  constructor
  · rintro ⟨h | ⟨r, hr, rfl⟩, hp⟩
    · exact ⟨hp, .inl h⟩
    · exact ⟨hp, .inr ⟨r, hr, rfl⟩⟩
  · rintro ⟨hp, h | ⟨r, hr, rfl⟩⟩
    · exact ⟨.inl h, hp⟩
    · exact ⟨.inr ⟨r, hr, rfl⟩, hp⟩

/-- What R98 counts a member at. -/
theorem peerEffective_eq (policy : LostPolicy) (b : Budget) (r : PeerRecord) : peerEffective policy b r =
    if r.said.flag = .joining ∨ r.said.flag = .isolated then 0
    else if r.state = .live ∨ r.state = .coasting then min (r.said.claim b).request (r.said.claim b).cap
    else if policy = .release then 0 else (r.said.claim b).cap := by
  unfold peerEffective
  dsimp only
  split <;> simp [*]

/-- In a sound table the participants stand in ascending order of address. -/
theorem pairwise_participantsOf (b : Budget) (h : tableSound s) :
    (participantsOf b s).Pairwise fun p p' => p.address < p'.address := by
  obtain ⟨-, hascending, haddress, -⟩ := h
  refine List.Pairwise.filter _ (pairwise_insertParticipant (List.pairwise_map.mpr (hascending.filter _)) fun x hx => ?_)
  obtain ⟨r, hr, rfl⟩ := List.mem_map.mp hx
  exact (haddress r (List.mem_of_mem_filter hr)).2.2

/-- In a sound table the participant of an address is the own entry, or that of the one member of the address. -/
theorem participantsOf_members (b : Budget) (h : tableSound s) :
    (ownEffective b s = 0 → ∀ p ∈ participantsOf b s, p.address ≠ s.startUp.address) ∧
    (∀ r ∈ membersOf b s, peerEffective s.cfg.lostPolicy b r = 0 → ∀ p ∈ participantsOf b s, p.address ≠ r.address) := by
  obtain ⟨-, hascending, haddress, -⟩ := h
  have hown (r : PeerRecord) (hr : r ∈ membersOf b s) : r.address ≠ s.startUp.address :=
    (haddress r (List.mem_of_mem_filter hr)).2.2
  refine ⟨fun h0 p hp => ?_, fun r hr h0 p hp => ?_⟩
  · obtain ⟨hrequest, rfl | ⟨r, hr, rfl⟩⟩ := mem_participantsOf.mp hp
    · exact absurd h0 hrequest
    · exact hown r hr
  · obtain ⟨hrequest, rfl | ⟨r', hr', rfl⟩⟩ := mem_participantsOf.mp hp
    · exact (hown r hr).symm
    · intro haddr
      have : r' = r := Ascending.eq_of_address hascending (List.mem_of_mem_filter hr') (List.mem_of_mem_filter hr) haddr
      subst this
      exact absurd h0 hrequest

/-! ### The statement -/

theorem currentFor_tick {b : Budget} (hs : CurrentFor b s) : CurrentFor b (tick s) := by
  refine hs.congr rfl rfl rfl rfl (participantsOf_congr rfl rfl rfl ?_)
  change (s.table.records.map _).filterMap _ = _
  rw [List.filterMap_map]
  exact List.filterMap_congr fun r _ => by cases b <;> rfl

/-- A decision keeps the allocations current by its last stage, every other command by each of its moves. -/
theorem allocationsCurrent_exec (h : exec c s = .next t) (htable : tableSound s) (hcaps : capsFollow s)
    (hs : allocationsCurrent s) : allocationsCurrent t := by
  rw [allocationsCurrent_iff] at hs ⊢
  by_cases hc : ∃ order, c = .decision order
  · obtain ⟨order, rfl⟩ := hc
    change execDecision order s = .next t at h
    unfold execDecision at h
    cases h
    intro b
    split
    · exact (hs b).decisionExpires order hcaps
    · exact hs b
  · push Not at hc
    exact ((moves_of_exec h).keeps (I := fun u => tableSound u ∧ ∀ b, CurrentFor b u)
      (fun _ _ hm hu => ⟨hm.keeps_table hu.1, fun b => hm.keeps_current hc hu.1 b (hu.2 b)⟩) ⟨htable, hs⟩).2

/-- Settles O21: allocations and caps by the commands, budgets by the moves, and the participants by their list. -/
theorem allocationsFollowEveryTrigger : Obligations.AllocationsFollowEveryTrigger := by
  unfold Obligations.AllocationsFollowEveryTrigger
  refine ⟨fun s t htable hcaps hs hstep => ?_, fun s t => step_keeps (I := budgetsFollow) (fun _ _ => id) (fun _ => id)
    fun _ _ _ => Move.keeps_budgets, fun b s htable => ?_⟩
  · have := step_keeps_of_exec (I := fun u => tableSound u ∧ capsFollow u ∧ allocationsCurrent u) (fun _ _ => id)
      (fun u hu => ⟨tableSound_tick hu.1, hu.2.1,
        (allocationsCurrent_iff _).mpr fun b => currentFor_tick ((allocationsCurrent_iff _).mp hu.2.2 b)⟩)
      (fun c u v h hu => ⟨(moves_of_exec h).keeps (fun _ _ => Move.keeps_table) hu.1,
        (moves_of_exec h).keeps (fun _ _ => Move.keeps_caps) hu.2.1, allocationsCurrent_exec h hu.1 hu.2.1 hu.2.2⟩)
      ⟨htable, hcaps, hs⟩ hstep
    exact ⟨this.2.2, this.2.1⟩
  · obtain ⟨hnone, hmember⟩ := participantsOf_members b htable
    refine ⟨ownEffective b s, membersOf b s, participantsOf b s, ?_, ?_, rfl, pairwise_participantsOf b htable,
      fun p hp => ?_, hnone, fun h => mem_participantsOf.mpr ⟨h, .inl rfl⟩, fun r hr => ?_⟩
    · cases b <;> simp [ownEffective, eligible, Engine.request, Engine.cap]
    · cases b <;> rfl
    · obtain ⟨hrequest, rfl | ⟨r, hr, rfl⟩⟩ := mem_participantsOf.mp hp
      · exact ⟨rfl, hrequest, .inl rfl⟩
      · exact ⟨rfl, hrequest, .inr ⟨r, hr, rfl⟩⟩
    · refine ⟨r.said.claim b, peerEffective s.cfg.lostPolicy b r, by cases b <;> rfl, peerEffective_eq _ _ _, hmember r hr,
        fun h => mem_participantsOf.mpr ⟨h, .inr ⟨r, hr, rfl⟩⟩⟩

end Sys2Proof.Machine
end


-- ==== Sys2Proof/Proofs/Commands.lean ====
section
/-! SUPPORT. In service the dampers and the valve stand at the commands of mode and grants (R133 to R135). -/

namespace Sys2Proof.Machine

variable {c : Instr} {s t : State}

/-- In service the valve carries the command of R35 (R135). -/
def ValveFollows (s : State) : Prop :=
  s.startUp.lifecycle.inService = true → s.output.wfcPos = valveCommand s.cfg.lc (s.grant .wfc)

/-- The commands follow as long as what they are read from stays. -/
theorem commandsFollow_congr (hs : commandsFollow s)
    (hservice : t.startUp.lifecycle.inService = true → s.startUp.lifecycle.inService = true)
    (hcfg : t.startUp.settings = s.startUp.settings) (hbypass : t.output.bypass.command = s.output.bypass.command)
    (houtdoor : t.output.outdoor.command = s.output.outdoor.command) (hvalve : t.output.wfcPos = s.output.wfcPos)
    (hpair : t.engine.applied.inPair = s.engine.applied.inPair)
    (heconomize : t.engine.applied = .economize ↔ s.engine.applied = .economize)
    (hwanted : t.output.wanted = s.output.wanted) (hrelief : t.grant .relief = s.grant .relief)
    (hwfc : t.grant .wfc = s.grant .wfc) : commandsFollow t := fun h => by
  obtain ⟨h1, h2, h3⟩ := hs (hservice h)
  unfold bypassCommand outdoorCommand State.cfg at *
  simp only [hcfg, hbypass, houtdoor, hvalve, hpair, heconomize, hwanted, hrelief, hwfc]
  exact ⟨h1, h2, h3⟩

/-- The same for an operation that leaves mode and allocator. -/
theorem commandsFollow_frame (hs : commandsFollow s)
    (hservice : t.startUp.lifecycle.inService = true → s.startUp.lifecycle.inService = true)
    (hcfg : t.startUp.settings = s.startUp.settings) (hbypass : t.output.bypass.command = s.output.bypass.command)
    (houtdoor : t.output.outdoor.command = s.output.outdoor.command) (hvalve : t.output.wfcPos = s.output.wfcPos)
    (happlied : t.engine.applied = s.engine.applied) (hwanted : t.output.wanted = s.output.wanted)
    (hallocator : t.allocator = s.allocator) : commandsFollow t :=
  commandsFollow_congr hs hservice hcfg hbypass houtdoor hvalve (by rw [happlied]) (by rw [happlied]) hwanted
    (by rw [State.grant, State.grant, hallocator]) (by rw [State.grant, State.grant, hallocator])

theorem valveFollows_of_commands (hs : commandsFollow s) : ValveFollows s := fun h => (hs h).2.2

theorem valveFollows_congr (hs : ValveFollows s) (hlifecycle : t.startUp.lifecycle = s.startUp.lifecycle)
    (hcfg : t.startUp.settings = s.startUp.settings) (hvalve : t.output.wfcPos = s.output.wfcPos)
    (hwfc : t.grant .wfc = s.grant .wfc) : ValveFollows t := by
  unfold ValveFollows State.cfg at *
  rw [hlifecycle, hcfg, hvalve, hwfc]
  exact hs

/-- A driven valve stands at its command. -/
theorem valveFollows_driveValve (s : State) : ValveFollows (driveValve s) := by
  intro h
  have hservice : s.startUp.lifecycle.inService = true := by simpa using h
  unfold driveValve
  rw [if_pos hservice]
  rfl

/-- In service the dampers carry the commands of R133 and R134. -/
def DampersFollow (s : State) : Prop :=
  s.startUp.lifecycle.inService = true →
    s.output.bypass.command = bypassCommand s ∧ s.output.outdoor.command = outdoorCommand s

/-- Driven dampers stand at their commands. -/
theorem dampersFollow_driveDampers (s : State) : DampersFollow (driveDampers s) := fun h => by
  obtain ⟨hbypass, houtdoor⟩ := driveDampers_commands s (by simpa using h)
  exact ⟨by simpa [bypassCommand] using hbypass, by simpa [outdoorCommand, State.grant, State.cfg] using houtdoor⟩

theorem commandsFollow_driveDampers (hs : ValveFollows s) : commandsFollow (driveDampers s) := fun h => by
  obtain ⟨hbypass, houtdoor⟩ := dampersFollow_driveDampers s h
  exact ⟨hbypass, houtdoor, by simpa [State.cfg, State.grant] using hs (by simpa using h)⟩

/-- A driven valve completes what driven dampers leave. -/
theorem commandsFollow_driveValve (hs : DampersFollow s) : commandsFollow (driveValve s) := fun h => by
  obtain ⟨hbypass, houtdoor⟩ := hs (by simpa using h)
  exact ⟨by simpa [bypassCommand] using hbypass, by simpa [outdoorCommand, State.grant, State.cfg] using houtdoor,
    valveFollows_driveValve s h⟩

/-- A mode that is applied drives the dampers. -/
theorem commandsFollow_applyMode (m : Mode) (hs : commandsFollow s) : commandsFollow (applyMode m s) := by
  unfold applyMode
  split
  · exact hs
  · exact commandsFollow_driveDampers (valveFollows_congr (valveFollows_of_commands hs) (by simp) (by simp) (by simp)
      (by simp [State.grant]))

theorem commandsFollow_cancelPending (hs : commandsFollow s) : commandsFollow (cancelPending s) :=
  commandsFollow_frame hs (by simp) (by simp) (by simp) (by simp) (by simp) (by simp) (by simp) (by simp)

theorem commandsFollow_forcedChange (hs : commandsFollow s) : commandsFollow (forcedChange s) :=
  commandsFollow_applyMode _ (commandsFollow_frame (commandsFollow_cancelPending hs) id rfl rfl rfl rfl rfl rfl rfl)

theorem commandsFollow_holdTest (hs : commandsFollow s) : commandsFollow (holdTest s) := by
  unfold holdTest
  split
  · exact commandsFollow_forcedChange hs
  · exact hs

theorem commandsFollow_evaluateFan (hs : commandsFollow s) : commandsFollow (evaluateFan s) := by
  unfold evaluateFan
  split <;> exact hs

/-- A grant that is reduced is handed on to dampers or valve (R108). -/
theorem commandsFollow_reduceGrant (b : Budget) (hs : commandsFollow s) : commandsFollow (reduceGrant b s) := by
  unfold reduceGrant
  dsimp only
  split
  · cases b
    case relief =>
      have hvalve : ValveFollows { s with allocator := s.allocator.set .relief { s.allocator.get .relief with
          grant := (s.allocator.get .relief).ownShare } } :=
        valveFollows_congr (valveFollows_of_commands hs) rfl rfl rfl (by simp [State.grant, Allocator.get, Allocator.set])
      exact commandsFollow_evaluateFan (commandsFollow_holdTest (commandsFollow_driveDampers hvalve))
    case wfc =>
      refine commandsFollow_driveValve fun h => ?_
      obtain ⟨hbypass, houtdoor, -⟩ := hs h
      exact ⟨hbypass, by simpa [outdoorCommand, State.grant, State.cfg, Allocator.get, Allocator.set] using houtdoor⟩
  · exact hs

theorem commands_safe : AllocationSafe commandsFollow where
  allocate b s hs := commandsFollow_reduceGrant b (commandsFollow_congr hs id rfl rfl rfl rfl rfl .rfl rfl
    (by cases b <;> rfl) (by cases b <;> rfl))
  budget _ _ := id
  table _ _ := id
  fan _ _ := id
  reconciler _ _ := id
  sticky _ _ := id

theorem commandsFollow_zeroGrants (hs : commandsFollow s) : commandsFollow (zeroGrants s) := by
  have hzero (b : Budget) (u : State) (hu : commandsFollow u) : commandsFollow (zeroGrant b u) :=
    commandsFollow_reduceGrant b (commandsFollow_congr hu id rfl rfl rfl rfl rfl .rfl rfl
      (by cases b <;> rfl) (by cases b <;> rfl))
  exact commands_safe.allocateBoth (hzero _ _ (hzero _ _ hs))

/-- The frost rules keep the pair and ECONOMIZE, and so the dampers' commands (R15, R133). -/
theorem speedRules_economize_iff (cfg : Settings) (exh outTemp : Option Int) (entered : Bool) (e : Engine) :
    (speedRules cfg exh outTemp entered e).applied = .economize ↔ e.applied = .economize := by
  refine ⟨speedRules_economize cfg exh outTemp entered e, fun h => ?_⟩
  simp [speedRules, h, Mode.inPair]

theorem commandsFollow_setSpeed (entered : Bool) (hs : commandsFollow s) : commandsFollow (setSpeed entered s) :=
  commandsFollow_congr hs (by simp) (by simp) (by simp) (by simp) (by simp) (by simp [setSpeed])
    (by simp [setSpeed, speedRules_economize_iff]) (by simp) (by simp [State.grant]) (by simp [State.grant])

theorem commandsFollow_setOutcome (d : Damper) (o : Polarity) (hs : commandsFollow s) : commandsFollow (setOutcome d o s) := by
  have hrecord : commandsFollow (recordOutcome d o s) :=
    commandsFollow_frame hs (by simp) (by simp) (by cases d <;> simp [Output.setDamper, Output.damper])
      (by cases d <;> simp [Output.setDamper, Output.damper]) (by cases d <;> simp [Output.setDamper]) (by simp)
      (by cases d <;> simp [Output.setDamper]) (by simp)
  rw [setOutcome_eq]
  split
  · exact commandsFollow_forcedChange hrecord
  · exact hrecord

theorem commandsFollow_completeChange (k : ChangeKind) (hs : commandsFollow s) : commandsFollow (completeChange k s) := by
  unfold completeChange
  dsimp only
  split
  · have happlied : commandsFollow (applyMode k.target.mode { s with engine := { s.engine with dwell := 0 } }) :=
      commandsFollow_applyMode _ hs
    cases k
    · exact commandsFollow_setSpeed true happlied
    · exact happlied
  · exact hs

/-- Out of service there is nothing to follow. -/
theorem commandsFollow_of_not_inService (h : t.startUp.lifecycle.inService = false) : commandsFollow t := fun h' => by
  rw [h] at h'
  cases h'

/-- Every move leaves dampers and valve at their commands. -/
theorem Move.keeps_commands (h : Move c s t) (hs : commandsFollow s) : commandsFollow t := by
  cases h
  case coldStart => exact commandsFollow_of_not_inService (by simp [lifecycle_coldStart, Lifecycle.inService])
  case configEnds =>
    refine commandsFollow_of_not_inService ?_
    rw [lifecycle_configEnds]
    split <;> rfl
  case warmStart => exact commandsFollow_of_not_inService rfl
  case recompute => exact commands_safe.recompute hs
  case holdExpires => exact commands_safe.holdExpires hs
  case declareStall =>
    have hstalled : commandsFollow (setSticky .wheelStall (moveWheel .stalled s)) := hs
    unfold Machine.declareStall
    dsimp only
    split
    · exact commandsFollow_forcedChange hstalled
    · exact hstalled
  case outcome => exact commandsFollow_setOutcome _ _ hs
  case stageAdopt => exact commandsFollow_evaluateFan (commandsFollow_driveDampers (valveFollows_driveValve _))
  case stageRequests =>
    exact commandsFollow_holdTest
      (commandsFollow_driveDampers (valveFollows_congr (valveFollows_of_commands hs) rfl rfl rfl rfl))
  case cancelPending => exact commandsFollow_cancelPending hs
  case applyTarget => exact commandsFollow_applyMode _ hs
  case stageSpeed => exact commandsFollow_setSpeed _ hs
  case allocate => exact commands_safe.allocate _ _ hs
  case forcedChange => exact commandsFollow_forcedChange hs
  case slotExpires p h => exact commandsFollow_completeChange p.kind (s := { s with stagger := idleStagger }) hs
  case accept | insert | coast | lose | free => exact commands_safe.reported.tableMove _ _ _ hs
  case phaseEnds p _ h =>
    refine commandsFollow_of_not_inService ?_
    rw [lifecycle_phaseEnds p s h]
    split <;> rfl
  case listenEnds => exact commands_safe.activateFan (commandsFollow_driveValve (dampersFollow_driveDampers _))
  case enterActive h =>
    exact commands_safe.allocateBoth (commandsFollow_frame hs (by simp [h, Lifecycle.inService]) rfl rfl rfl rfl rfl rfl rfl)
  case enterIsolated h =>
    have hfan : commandsFollow (fanFollows (setSticky .isolated (setLifecycle .isolated
        { s with bus := { s.bus with lastHeard := none } }))) :=
      commands_safe.fanFollows (commandsFollow_frame hs (by rcases h with h | h <;> simp [h, Lifecycle.inService])
        rfl rfl rfl rfl rfl rfl rfl)
    unfold Machine.enterIsolated
    dsimp only
    split
    · exact commandsFollow_holdTest (commandsFollow_zeroGrants hfan)
    · exact hfan
  case rejoin h =>
    exact commands_safe.fanFollows (commandsFollow_frame hs (by simp [h, Lifecycle.inService]) rfl rfl rfl rfl rfl rfl rfl)
  case judgeClash =>
    unfold Machine.judgeClash
    dsimp only
    split
    · exact hs
    · exact commandsFollow_zeroGrants hs
  case clashEnds =>
    unfold Machine.clashEnds
    dsimp only
    refine commands_safe.allocateBoth ?_
    split <;> exact hs
  all_goals
    exact commandsFollow_frame hs (by simp) (by simp) (by simp) (by simp) (by simp) (by simp) (by simp) (by simp)

/-- Settles O22, by the moves: what changes a mode, a wanted fraction or a grant drives the outputs. -/
theorem commandsFollowModeAndGrants : Obligations.CommandsFollowModeAndGrants := by
  unfold Obligations.CommandsFollowModeAndGrants
  exact fun s t => step_keeps (I := commandsFollow) (fun _ _ => id) (fun _ => id) fun _ _ _ => Move.keeps_commands

end Sys2Proof.Machine
end


-- ==== Sys2Proof/Proofs/SafeState.lean ====
section
/-! SUPPORT. The wheel with its outputs and timers, the safe state with the test positions, and the timers of service (section 8.2, R142, R148). -/

namespace Sys2Proof.Machine

variable {c : Instr} {s t : State}

/-! ### The wheel's outputs and timers -/

/-- The wheel's outputs and timers are those of its state (section 8.2, R54, R136). -/
structure WheelOutputs (s : State) : Prop where
  run : s.output.wheelRun = true ↔ s.output.wheel = .running ∨ s.output.wheel = .purging
  speed : s.output.wheelSpd = wheelSpeed s s.output.wheel
  purge : s.output.purge.isSome = true ↔ s.output.wheel = .purging
  idle : s.output.idle.isSome = true → s.output.wheel = .stopped
  gate : s.rotation.gate.isSome = true → s.output.wheel = .running

theorem wheelOutputs_moveWheel (w : Wheel) (s : State) : WheelOutputs (moveWheel w s) where
  run := by simp [moveWheel_output]
  speed := by cases w <;> rfl
  purge := by cases w <;> simp [moveWheel_output]
  idle := by cases w <;> simp [moveWheel_output]
  gate := by cases w <;> simp [moveWheel, idleRotation]

theorem WheelOutputs.congr (hs : WheelOutputs s) (hwheel : t.output.wheel = s.output.wheel)
    (hrun : t.output.wheelRun = s.output.wheelRun) (hspeed : t.output.wheelSpd = s.output.wheelSpd)
    (hpurge : t.output.purge.isSome = s.output.purge.isSome) (hidle : t.output.idle.isSome = s.output.idle.isSome)
    (hgate : t.rotation.gate.isSome = s.rotation.gate.isSome) (hcfg : t.startUp.settings = s.startUp.settings)
    (htarget : t.engine.speedTarget = s.engine.speedTarget) : WheelOutputs t where
  run := by rw [hrun, hwheel]; exact hs.run
  speed := by
    have : wheelSpeed t = wheelSpeed s := by
      funext w
      cases w <;> simp [wheelSpeed, htarget, State.cfg, hcfg]
    rw [hspeed, hwheel, this]
    exact hs.speed
  purge := by rw [hpurge, hwheel]; exact hs.purge
  idle := by rw [hidle, hwheel]; exact hs.idle
  gate := by rw [hgate, hwheel]; exact hs.gate

/-- The wheel state that follows a change of the applied mode (R138 to R140). -/
def wheelAfter (m : Mode) (w : Wheel) : Wheel :=
  match m, w with
  | .bypass, .running | .bypass, .purging | .economize, .running | .economize, .purging => .stopped
  | .recover, .stopped | .recover, .purging => .running
  | _, w => w

theorem wheelFollows_wheel (m : Mode) (s : State) : (wheelFollows m s).output.wheel = wheelAfter m s.output.wheel := by
  unfold wheelFollows wheelAfter
  split <;> simp_all [moveWheel_output]

theorem WheelOutputs.wheelFollows (m : Mode) (hs : WheelOutputs s) : WheelOutputs (wheelFollows m s) := by
  unfold Machine.wheelFollows
  split
  all_goals first | exact wheelOutputs_moveWheel _ _ | exact hs

theorem WheelOutputs.driveDampers (hs : WheelOutputs s) : WheelOutputs (driveDampers s) :=
  hs.congr (by simp) (by simp) (by simp) (by simp) (by simp) (by simp) (by simp) (by simp)

theorem WheelOutputs.applyMode (m : Mode) (hs : WheelOutputs s) : WheelOutputs (applyMode m s) := by
  unfold Machine.applyMode
  split
  · exact hs
  · exact WheelOutputs.driveDampers (WheelOutputs.wheelFollows m (s := { s with engine := { s.engine with applied := m } })
      (hs.congr rfl rfl rfl rfl rfl rfl rfl rfl))

theorem applyMode_wheel (m : Mode) (s : State) : (applyMode m s).output.wheel =
    if s.engine.applied = m then s.output.wheel else wheelAfter m s.output.wheel := by
  unfold applyMode
  split
  · rfl
  · simp [wheelFollows_wheel]

/-- Outputs and timers of the wheel after a forced change: the wheel stops where it ran (R23, R138). -/
theorem WheelOutputs.forcedChange (hs : WheelOutputs s) : WheelOutputs (forcedChange s) :=
  WheelOutputs.applyMode .bypass (s := { cancelPending s with engine := { (cancelPending s).engine with target := .bypass, dwell := 0 } })
    (hs.congr (by simp) (by simp) (by simp) (by simp) (by simp) (by simp) (by simp) (by simp))

theorem forcedChange_wheel (s : State) : (forcedChange s).output.wheel =
    if s.engine.applied = .bypass then s.output.wheel else wheelAfter .bypass s.output.wheel := by
  unfold forcedChange
  rw [applyMode_wheel]
  simp

/-! ### Wheel, safe state and timers together -/

/-- The three invariants of the statement, the wheel's in two parts. -/
structure StationHeld (s : State) : Prop where
  wheel : WheelOutputs s
  pair : s.engine.applied.inPair = true ↔ s.output.wheel = .running
  safe : safeHeld s
  timers : serviceTimers s

theorem stationHeld_iff (s : State) : StationHeld s ↔ wheelSound s ∧ safeHeld s ∧ serviceTimers s :=
  ⟨fun ⟨⟨h1, h2, h3, h4, h5⟩, h6, h7, h8⟩ => ⟨⟨h1, h2, h3, h4, h5, h6⟩, h7, h8⟩,
    fun ⟨⟨h1, h2, h3, h4, h5, h6⟩, h7, h8⟩ => ⟨⟨h1, h2, h3, h4, h5⟩, h6, h7, h8⟩⟩

/-- In service the safe state asks only that no polarity test runs. -/
theorem safeHeld_of_inService (h : s.startUp.lifecycle.inService = true) (htest : s.output.test = none) : safeHeld s := by
  refine ⟨fun h' => ?_, fun h' => ?_, fun h' => ?_, ?_, by simp [htest]⟩
  · rw [h] at h'; cases h'
  · rcases h' with h' | h' <;> simp [h', Lifecycle.inService] at h
  · simp [h', Lifecycle.inService] at h
  · cases hl : s.startUp.lifecycle <;> simp [hl, Lifecycle.inService] at h <;> simp [htest]

theorem StationHeld.no_test (hs : StationHeld s) (h : s.startUp.lifecycle.inService = true) : s.output.test = none := by
  obtain ⟨-, -, -, htest, -⟩ := hs.safe
  rw [← Option.not_isSome_iff_eq_none, htest]
  intro hl
  rw [hl] at h
  cases h

/-- Out of service the wheel is stopped, its idle timer off, the valve at 0, and BYPASS applied (R24, R148). -/
theorem StationHeld.out (hs : StationHeld s) (h : s.startUp.lifecycle.inService = false) :
    s.output.wheel = .stopped ∧ s.output.idle = none ∧ s.output.wfcPos = 0 ∧ s.engine.applied = .bypass := hs.safe.1 h

/-- A wheel that has left STOPPED, or whose idle timer runs, is in service. -/
theorem StationHeld.inService_of_wheel (hs : StationHeld s) (h : s.output.wheel ≠ .stopped ∨ s.output.idle.isSome = true) :
    s.startUp.lifecycle.inService = true := by
  by_contra hout
  obtain ⟨hwheel, hidle, -, -⟩ := hs.out (by simpa using hout)
  rcases h with h | h
  · exact h hwheel
  · simp [hidle] at h

theorem StationHeld.inService_of_timer (hs : StationHeld s) (h : s.engine.decisionTimer.isSome = true) :
    s.startUp.lifecycle.inService = true := by
  rw [← hs.timers.1]
  exact h

theorem StationHeld.inService_of_pending (hs : StationHeld s) (h : s.stagger.pending.isSome = true) :
    s.startUp.lifecycle.inService = true := hs.timers.2.2 h

theorem serviceTimers_congr (hs : serviceTimers s) (hservice : t.startUp.lifecycle.inService = s.startUp.lifecycle.inService)
    (hdecision : t.engine.decisionTimer.isSome = s.engine.decisionTimer.isSome)
    (hannounce : t.bus.announceTimer.isSome = s.bus.announceTimer.isSome)
    (hpending : t.stagger.pending.isSome = true → s.stagger.pending.isSome = true) : serviceTimers t := by
  unfold serviceTimers at *
  rw [hservice, hdecision, hannounce]
  exact ⟨hs.1, hs.2.1, fun h => hs.2.2 (hpending h)⟩

/-- All of it stays as long as what it is read from stays. -/
theorem StationHeld.congr (hs : StationHeld s) (hlifecycle : t.startUp.lifecycle = s.startUp.lifecycle)
    (hcfg : t.startUp.settings = s.startUp.settings) (hwheel : t.output.wheel = s.output.wheel)
    (hrun : t.output.wheelRun = s.output.wheelRun) (hspeed : t.output.wheelSpd = s.output.wheelSpd)
    (hpurge : t.output.purge = s.output.purge) (hidle : t.output.idle = s.output.idle)
    (hgate : t.rotation.gate.isSome = s.rotation.gate.isSome) (htarget : t.engine.speedTarget = s.engine.speedTarget)
    (happlied : t.engine.applied = s.engine.applied) (hvalve : t.output.wfcPos = s.output.wfcPos)
    (hbypass : t.output.bypass.command = s.output.bypass.command)
    (houtdoor : t.output.outdoor.command = s.output.outdoor.command) (htest : t.output.test = s.output.test)
    (hdecision : t.engine.decisionTimer.isSome = s.engine.decisionTimer.isSome)
    (hannounce : t.bus.announceTimer.isSome = s.bus.announceTimer.isSome)
    (hpending : t.stagger.pending.isSome = true → s.stagger.pending.isSome = true) : StationHeld t where
  wheel := hs.wheel.congr hwheel hrun hspeed (by rw [hpurge]) (by rw [hidle]) hgate hcfg htarget
  pair := by rw [happlied, hwheel]; exact hs.pair
  safe := by
    unfold safeHeld State.cfg
    rw [hlifecycle, hcfg, hwheel, hidle, hvalve, happlied, hbypass, houtdoor, htest]
    exact hs.safe
  timers := serviceTimers_congr hs.timers (by rw [hlifecycle]) hdecision hannounce hpending

/-- In service what is left is the wheel, its pair, and the timers. -/
theorem StationHeld.inService (hs : StationHeld s) (h : s.startUp.lifecycle.inService = true)
    (ht : t.startUp.lifecycle.inService = true) (hwheel : WheelOutputs t)
    (hpair : t.engine.applied.inPair = true ↔ t.output.wheel = .running) (htest : t.output.test = s.output.test)
    (hdecision : t.engine.decisionTimer.isSome = s.engine.decisionTimer.isSome)
    (hannounce : t.bus.announceTimer.isSome = s.bus.announceTimer.isSome) : StationHeld t where
  wheel := hwheel
  pair := hpair
  safe := safeHeld_of_inService ht (by rw [htest, hs.no_test h])
  timers := ⟨by rw [hdecision, hs.timers.1, h, ht], by rw [hannounce, hs.timers.2.1, h, ht], fun _ => ht⟩

/-! ### The operations -/

theorem StationHeld.driveDampers (hs : StationHeld s) : StationHeld (driveDampers s) := by
  cases h : s.startUp.lifecycle.inService
  · unfold Machine.driveDampers
    rw [if_neg (by simp [h])]
    exact hs
  · exact hs.inService h (by simpa using h) hs.wheel.driveDampers (by simpa using hs.pair) (by simp) (by simp) (by simp)

theorem StationHeld.driveValve (hs : StationHeld s) : StationHeld (driveValve s) := by
  cases h : s.startUp.lifecycle.inService
  · unfold Machine.driveValve
    rw [if_neg (by simp [h])]
    exact hs
  · exact hs.inService h (by simpa using h)
      (hs.wheel.congr (by simp) (by simp) (by simp) (by simp) (by simp) (by simp) (by simp) (by simp))
      (by simpa using hs.pair) (by simp) (by simp) (by simp)

/-- After a change of mode the wheel runs exactly in the recovery pair, where RECOVER does not meet a STALLED wheel. -/
theorem wheelAfter_running {m : Mode} {w : Wheel} (hm : m = .bypass ∨ m = .economize ∨ m = .recover ∧ w ≠ .stalled) :
    m.inPair = true ↔ wheelAfter m w = .running := by
  rcases hm with rfl | rfl | ⟨rfl, hw⟩
  · cases w <;> simp [Mode.inPair, wheelAfter]
  · cases w <;> simp [Mode.inPair, wheelAfter]
  · cases w <;> simp [Mode.inPair, wheelAfter] at hw ⊢

theorem pair_applyMode {m : Mode} (hm : m = .bypass ∨ m = .economize ∨ m = .recover ∧ s.output.wheel ≠ .stalled)
    (hs : s.engine.applied.inPair = true ↔ s.output.wheel = .running) :
    (applyMode m s).engine.applied.inPair = true ↔ (applyMode m s).output.wheel = .running := by
  rw [applyMode_applied, applyMode_wheel]
  split
  · rename_i h
    rw [← h]
    exact hs
  · exact wheelAfter_running hm

/-- A change of mode in service. -/
theorem StationHeld.applyMode {m : Mode} (hs : StationHeld s) (h : s.startUp.lifecycle.inService = true)
    (hm : m = .bypass ∨ m = .economize ∨ m = .recover ∧ s.output.wheel ≠ .stalled) : StationHeld (applyMode m s) :=
  hs.inService h (by simpa using h) (hs.wheel.applyMode m) (pair_applyMode hm hs.pair) (by simp) (by simp) (by simp)

@[simp] theorem cancelPending_pending (s : State) : (cancelPending s).stagger.pending = none := by
  unfold cancelPending
  split
  · rfl
  · assumption

theorem StationHeld.cancelPending (hs : StationHeld s) : StationHeld (cancelPending s) :=
  hs.congr (by simp) (by simp) (by simp) (by simp) (by simp) (by simp) (by simp) (by simp) (by simp) (by simp) (by simp)
    (by simp) (by simp) (by simp) (by simp) (by simp) (by simp)

/-- A forced change; out of service BYPASS is applied already. -/
theorem StationHeld.forcedChange (hs : StationHeld s) : StationHeld (forcedChange s) := by
  have hcancelled : StationHeld { Machine.cancelPending s with
      engine := { (Machine.cancelPending s).engine with target := .bypass, dwell := 0 } } :=
    hs.cancelPending.congr rfl rfl rfl rfl rfl rfl rfl rfl rfl rfl rfl rfl rfl rfl rfl rfl id
  cases h : s.startUp.lifecycle.inService
  · obtain ⟨-, -, -, happlied⟩ := hs.out h
    unfold Machine.forcedChange Machine.applyMode
    rw [if_pos (by simpa using happlied)]
    exact hcancelled
  · exact hcancelled.applyMode (by simpa using h) (.inl rfl)

theorem held_aside : Aside StationHeld where
  allocator _ _ hs := hs.congr rfl rfl rfl rfl rfl rfl rfl rfl rfl rfl rfl rfl rfl rfl rfl rfl id
  table _ _ hs := hs.congr rfl rfl rfl rfl rfl rfl rfl rfl rfl rfl rfl rfl rfl rfl rfl rfl id
  fan _ _ hs := hs.congr rfl rfl rfl rfl rfl rfl rfl rfl rfl rfl rfl rfl rfl rfl rfl rfl id
  reconciler _ _ hs := hs.congr rfl rfl rfl rfl rfl rfl rfl rfl rfl rfl rfl rfl rfl rfl rfl rfl id
  sticky _ _ hs := hs.congr rfl rfl rfl rfl rfl rfl rfl rfl rfl rfl rfl rfl rfl rfl rfl rfl id
  driveDampers _ := StationHeld.driveDampers
  driveValve _ := StationHeld.driveValve
  forcedChange _ := StationHeld.forcedChange

theorem StationHeld.setOutcome (d : Damper) (o : Polarity) (hs : StationHeld s) : StationHeld (setOutcome d o s) := by
  have hrecord : StationHeld (recordOutcome d o s) := by
    cases d <;>
      exact hs.congr (by simp) (by simp) (by simp [Output.setDamper]) (by simp [Output.setDamper]) (by simp [Output.setDamper])
        (by simp [Output.setDamper]) (by simp [Output.setDamper]) (by simp) (by simp) (by simp) (by simp [Output.setDamper])
        (by simp [Output.setDamper, Output.damper]) (by simp [Output.setDamper, Output.damper]) (by simp [Output.setDamper])
        (by simp) (by simp) (by simp)
  rw [setOutcome_eq]
  split
  · exact hrecord.forcedChange
  · exact hrecord

/-- The frost rules keep the pair, and a RUNNING wheel follows the speed target (R15, R136). -/
theorem StationHeld.setSpeed (entered : Bool) (hs : StationHeld s) (h : s.startUp.lifecycle.inService = true) :
    StationHeld (setSpeed entered s) := by
  refine hs.inService h (by simpa using h) ⟨by simpa using hs.wheel.run, ?_, by simpa using hs.wheel.purge,
    by simpa using hs.wheel.idle, by simpa using hs.wheel.gate⟩ (by simpa [Machine.setSpeed] using hs.pair) (by simp) (by simp)
    (by simp)
  unfold Machine.setSpeed followSpeed
  have hspeed := hs.wheel.speed
  split
  · simp_all [wheelSpeed]
  · cases hw : s.output.wheel <;> simp_all [wheelSpeed, State.cfg]

theorem StationHeld.completeChange (k : ChangeKind) (hs : StationHeld s) (h : s.startUp.lifecycle.inService = true) :
    StationHeld (completeChange k s) := by
  unfold Machine.completeChange
  dsimp only
  split
  · rename_i hpasses
    have hdwell : StationHeld { s with engine := { s.engine with dwell := 0 } } :=
      hs.congr rfl rfl rfl rfl rfl rfl rfl rfl rfl rfl rfl rfl rfl rfl rfl rfl id
    cases k
    · exact (hdwell.applyMode (m := .recover) h (.inr (.inr ⟨rfl, by simpa [completionPasses] using hpasses⟩))).setSpeed true
        (by simpa using h)
    · exact hdwell.applyMode (m := .economize) h (.inr (.inl rfl))
  · exact hs

/-- A stall is found only while a gate window runs, in the recovery pair: the wheel is STALLED and the pair left (R20, R140). -/
theorem StationHeld.declareStall (hs : StationHeld s) (h : s.rotation.gate.isSome = true) : StationHeld (declareStall s) := by
  have hrunning := hs.wheel.gate h
  have hpair : s.engine.applied.inPair = true := hs.pair.mpr hrunning
  have hservice := hs.inService_of_wheel (.inl (by rw [hrunning]; decide))
  have heq : Machine.declareStall s = Machine.forcedChange (setSticky .wheelStall (moveWheel .stalled s)) := by
    unfold Machine.declareStall
    rw [if_pos hpair]
  have hwheel : WheelOutputs (setSticky .wheelStall (moveWheel .stalled s)) :=
    (wheelOutputs_moveWheel .stalled s).congr rfl rfl rfl rfl rfl rfl rfl rfl
  rw [heq]
  refine hs.inService hservice (by simpa using hservice) hwheel.forcedChange ?_ (by simp) (by simp) (by simp)
  rw [forcedChange_engine, forcedChange_wheel]
  split <;> simp [Mode.inPair, moveWheel_output, wheelAfter]

/-- The wheel moves between STOPPED and PURGING, or out of STALLED, in service. -/
theorem StationHeld.moveWheel {w : Wheel} (hs : StationHeld s) (hservice : s.startUp.lifecycle.inService = true)
    (hs' : s.output.wheel ≠ .running) (hw : w ≠ .running) : StationHeld (moveWheel w s) := by
  refine hs.inService hservice hservice (wheelOutputs_moveWheel w s) ?_ rfl rfl rfl
  rw [moveWheel_frame w s |>.2.2.2.1, hs.pair, moveWheel_output]
  simp [hs', hw]

theorem drivePhase_bypass (p : PolarityTest) (byp oa : Nat) (s : State) : (drivePhase p byp oa s).output.bypass.command = byp := by
  have := setCommand_other .outdoor .bypass oa (setCommand .bypass byp { s with output := { s.output with test := some p } })
    (by decide)
  exact (congrArg DamperState.command this).trans (setCommand_command .bypass _ _)

theorem drivePhase_outdoor (p : PolarityTest) (byp oa : Nat) (s : State) : (drivePhase p byp oa s).output.outdoor.command = oa :=
  setCommand_command .outdoor _ _

/-- A phase of the polarity test drives the dampers to its positions (R142). -/
theorem StationHeld.drivePhase {p : PolarityTest} {byp oa : Nat} (hs : StationHeld s) (h : s.startUp.lifecycle = .commission)
    (hbyp : byp = if p.phase = .bypassLow then 0 else 1000)
    (hoa : oa = if p.phase = .outdoorLow then 0 else if p.phase = .outdoorHigh then 1000 else s.cfg.fmin) :
    StationHeld (drivePhase p byp oa s) := by
  have hbypass := drivePhase_bypass p byp oa s
  have houtdoor := drivePhase_outdoor p byp oa s
  have htest : (Machine.drivePhase p byp oa s).output.test = some p := by simp [Machine.drivePhase]
  refine ⟨hs.wheel.congr (by simp) (by simp) (by simp) (by simp) (by simp) (by simp) (by simp) (by simp),
    by simpa using hs.pair, ⟨?_, ?_, ?_, ?_, ?_⟩, serviceTimers_congr hs.timers (by simp) (by simp) (by simp) (by simp)⟩
  · simpa using hs.safe.1
  · simp [h]
  · simp [h]
  · simp [htest, h]
  · rw [htest, hbypass, houtdoor]
    rintro q ⟨⟩
    exact ⟨hbyp, by simpa [State.cfg] using hoa⟩

/-- The test ends in LISTEN with the dampers at the positions of the safe state (R142, R148). -/
theorem StationHeld.testEnds (hs : StationHeld s) (h : s.startUp.lifecycle = .commission)
    (hbyp : s.output.bypass.command = 1000) (hcfg : s.startUp.settings = t.startUp.settings) :
    StationHeld (enterListen (setCommand .outdoor t.cfg.fmin { s with output := { s.output with test := none } })) := by
  have houtdoor : (setCommand .outdoor t.cfg.fmin { s with output := { s.output with test := none } }).output.outdoor.command =
      t.cfg.fmin := setCommand_command .outdoor _ _
  have hbypass : (setCommand .outdoor t.cfg.fmin { s with output := { s.output with test := none } }).output.bypass.command =
      1000 := (congrArg DamperState.command (setCommand_other .outdoor .bypass _ _ (by decide))).trans hbyp
  obtain ⟨hwheel, hidle, hvalve, happlied⟩ := hs.out (by rw [h]; rfl)
  refine ⟨hs.wheel.congr (by simp) (by simp) (by simp) (by simp) (by simp) (by simp) (by simp) (by simp),
    by simpa using hs.pair, ⟨?_, ?_, by simp, by simp, by simp⟩, serviceTimers_congr hs.timers (by simp [h, Lifecycle.inService]) (by simp) (by simp) (by simp)⟩
  · intro
    simpa using ⟨hwheel, hidle, hvalve, happlied⟩
  · intro
    simpa [State.cfg, hcfg] using And.intro hbypass houtdoor

theorem StationHeld.phaseEnds {p : PolarityTest} (hs : StationHeld s) (htest : s.output.test = some p)
    (h : s.startUp.lifecycle = .commission) : StationHeld (phaseEnds p s) := by
  unfold Machine.phaseEnds
  dsimp only
  split
  · exact hs.drivePhase h rfl rfl
  · exact (hs.setOutcome _ _).drivePhase (by simpa using h) rfl rfl
  · exact hs.drivePhase h rfl rfl
  · rename_i hphase
    have hset := hs.setOutcome .outdoor (polarityOf p.outdoorA (s.reading .oaFb))
    have htest' : (Machine.setOutcome .outdoor (polarityOf p.outdoorA (s.reading .oaFb)) s).output.test = some p := by
      simpa using htest
    have hl : (Machine.setOutcome .outdoor (polarityOf p.outdoorA (s.reading .oaFb)) s).startUp.lifecycle = .commission := by
      simpa using h
    have hcfg : (Machine.setOutcome .outdoor (polarityOf p.outdoorA (s.reading .oaFb)) s).startUp.settings = s.startUp.settings := by
      simp
    generalize Machine.setOutcome .outdoor (polarityOf p.outdoorA (s.reading .oaFb)) s = u at hset htest' hl hcfg ⊢
    exact hset.testEnds hl (by simpa [hphase] using (hset.safe.2.2.2.2 p htest').1) hcfg

/-! ### The moves -/

/-- What a reset leaves: a stopped wheel with no timer, BYPASS applied, the valve at 0 and no timer of service. -/
structure AtRest (s : State) : Prop where
  wheel : s.output.wheel = .stopped ∧ s.output.wheelRun = false ∧ s.output.wheelSpd = 0
  timers : s.output.purge = none ∧ s.output.idle = none ∧ s.rotation.gate = none
  valve : s.output.wfcPos = 0
  applied : s.engine.applied = .bypass
  service : s.engine.decisionTimer = none ∧ s.bus.announceTimer = none ∧ s.stagger.pending = none

/-- A state at rest out of service is held as soon as its dampers stand where the lifecycle state has them. -/
theorem AtRest.held (hs : AtRest s) (h : s.startUp.lifecycle.inService = false)
    (hsafe : s.startUp.lifecycle = .listen ∨ s.startUp.lifecycle = .service →
      s.output.bypass.command = 1000 ∧ s.output.outdoor.command = s.cfg.fmin)
    (hconfig : s.startUp.lifecycle = .config → s.output.bypass.command = 1000 ∧ s.output.outdoor.command = 200)
    (htest : s.output.test.isSome = true ↔ s.startUp.lifecycle = .commission)
    (hphase : ∀ p ∈ s.output.test, s.output.bypass.command = (if p.phase = .bypassLow then 0 else 1000) ∧
      s.output.outdoor.command = (if p.phase = .outdoorLow then 0 else if p.phase = .outdoorHigh then 1000 else s.cfg.fmin)) :
    StationHeld s := by
  obtain ⟨⟨hwheel, hrun, hspeed⟩, ⟨hpurge, hidle, hgate⟩, hvalve, happlied, hdecision, hannounce, hpending⟩ := hs
  refine ⟨⟨?_, ?_, ?_, ?_, ?_⟩, ?_, ⟨fun _ => ⟨hwheel, hidle, hvalve, happlied⟩, hsafe, hconfig, htest, hphase⟩, ?_, ?_, ?_⟩
  · simp [hwheel, hrun]
  · simp [hwheel, hspeed, wheelSpeed]
  · simp [hwheel, hpurge]
  · simp [hwheel]
  · simp [hgate]
  · simp [happlied, hwheel, Mode.inPair]
  · simp [hdecision, h]
  · simp [hannounce, h]
  · simp [hpending]

theorem AtRest.drivePhase (p : PolarityTest) (byp oa : Nat) (hs : AtRest s) : AtRest (drivePhase p byp oa s) := by
  obtain ⟨hwheel, htimers, hvalve, happlied, hservice⟩ := hs
  exact ⟨by simpa using hwheel, by simpa using htimers, by simpa using hvalve, by simpa using happlied, by simpa using hservice⟩

theorem StationHeld.coldStart (hi lo : Ratio) (record : List Byte) (s : State) : StationHeld (coldStart hi lo record s) := by
  unfold Machine.coldStart
  dsimp only
  split
  all_goals
    exact AtRest.held ⟨⟨rfl, rfl, rfl⟩, ⟨rfl, rfl, rfl⟩, rfl, rfl, rfl, rfl, rfl⟩ rfl
      (fun h => by rcases h with h | h <;> cases h) (fun _ => ⟨rfl, rfl⟩) ⟨nofun, nofun⟩ nofun

theorem StationHeld.configEnds (s : State) : StationHeld (configEnds s) := by
  unfold Machine.configEnds
  dsimp only
  split
  · exact AtRest.held ⟨⟨rfl, rfl, rfl⟩, ⟨rfl, rfl, rfl⟩, rfl, rfl, rfl, rfl, rfl⟩ rfl (fun _ => ⟨rfl, rfl⟩)
      (fun h => by cases h) ⟨nofun, nofun⟩ nofun
  · have hrest : AtRest (Machine.setLifecycle .commission (handConfiguration s)) :=
      ⟨⟨rfl, rfl, rfl⟩, ⟨rfl, rfl, rfl⟩, rfl, rfl, rfl, rfl, rfl⟩
    have hbypass := drivePhase_bypass (firstPhase s) 0 s.cfg.fmin (Machine.setLifecycle .commission (handConfiguration s))
    have houtdoor := drivePhase_outdoor (firstPhase s) 0 s.cfg.fmin (Machine.setLifecycle .commission (handConfiguration s))
    refine (hrest.drivePhase _ _ _).held (by simp [Lifecycle.inService]) (by simp) (by simp) (by simp [Machine.drivePhase]) ?_
    intro p hp
    obtain rfl : firstPhase s = p := by simpa [Machine.drivePhase] using hp
    rw [hbypass, houtdoor]
    simp [firstPhase, State.cfg]

theorem StationHeld.warmStart (s : State) : StationHeld (warmStart s) :=
  AtRest.held ⟨⟨rfl, rfl, rfl⟩, ⟨rfl, rfl, rfl⟩, rfl, rfl, rfl, rfl, rfl⟩ rfl (fun _ => ⟨rfl, rfl⟩)
    (fun h => by cases h) ⟨nofun, nofun⟩ nofun

/-- Between states of service a change of lifecycle state leaves what is held. -/
theorem StationHeld.setLifecycle (l : Lifecycle) (hs : StationHeld s) (h : s.startUp.lifecycle.inService = true)
    (hl : l.inService = true) : StationHeld (setLifecycle l s) :=
  hs.inService h hl (hs.wheel.congr rfl rfl rfl rfl rfl rfl rfl rfl) hs.pair rfl rfl rfl

/-- LISTEN ends in service: its timers start, the wheel's idle timer with them (R2, R149). -/
theorem StationHeld.listenEnds (hs : StationHeld s) (h : s.startUp.lifecycle = .listen) : StationHeld (listenEnds s) := by
  obtain ⟨hwheel, hidle, hvalve, happlied⟩ := hs.out (by rw [h]; rfl)
  have htest : s.output.test = none := by
    obtain ⟨-, -, -, htest, -⟩ := hs.safe
    simpa [h] using htest
  refine held_aside.safe.activateFan (held_aside.driveValve _ (held_aside.driveDampers _ ?_))
  refine ⟨⟨hs.wheel.run, hs.wheel.speed, hs.wheel.purge, fun _ => hwheel, hs.wheel.gate⟩, hs.pair, ?_, rfl, rfl, fun _ => rfl⟩
  exact safeHeld_of_inService rfl htest

/-- Every move keeps the wheel, the safe state and the timers of service. -/
theorem Move.keeps_held (h : Move c s t) (hs : StationHeld s) : StationHeld t := by
  cases h
  case coldStart => exact .coldStart _ _ _ _
  case configEnds => exact .configEnds _
  case warmStart => exact .warmStart _
  case recompute => exact held_aside.safe.recompute hs
  case holdExpires => exact held_aside.safe.holdExpires hs
  case declareStall h => exact hs.declareStall h
  case purges h h' => exact hs.moveWheel (hs.inService_of_wheel (.inr h')) (by simp [h]) (by decide)
  case stops h =>
    exact hs.moveWheel (hs.inService_of_wheel (.inl (by rcases h with h | h <;> simp [h])))
      (by rcases h with h | h <;> simp [h]) (by decide)
  case outcome => exact hs.setOutcome _ _
  case decisionTimer h => exact hs.congr rfl rfl rfl rfl rfl rfl rfl rfl rfl rfl rfl rfl rfl rfl h.symm rfl id
  case stageAdopt =>
    exact held_aside.safe.evaluateFan (held_aside.driveDampers _ (held_aside.driveValve _ (held_aside.allocator s _ hs)))
  case stageRequests =>
    refine held_aside.holdTest (held_aside.driveDampers _ ?_)
    exact hs.congr rfl rfl rfl rfl rfl rfl rfl rfl rfl rfl rfl rfl rfl rfl rfl rfl id
  case cancelPending => exact hs.cancelPending
  case startPending h =>
    have hservice := hs.inService_of_timer h
    exact hs.inService hservice (by simpa using hservice)
      (hs.wheel.congr (by simp) (by simp) (by simp) (by simp) (by simp) (by simp) (by simp) (by simp)) (by simpa using hs.pair)
      (by simp) (by simp) (by simp)
  case applyTarget m hm h => exact hs.applyMode (hs.inService_of_timer h) (by tauto)
  case stageSpeed h =>
    refine StationHeld.setSpeed _ (s := { s with engine := { s.engine with baseSpeed := baseSpeedNow s } }) ?_
      (hs.inService_of_timer h)
    exact hs.congr rfl rfl rfl rfl rfl rfl rfl rfl rfl rfl rfl rfl rfl rfl rfl rfl id
  case allocate => exact held_aside.safe.allocate _ _ hs
  case forcedChange => exact hs.forcedChange
  case slotExpires p h =>
    refine StationHeld.completeChange p.kind (s := { s with stagger := idleStagger }) ?_
      (hs.inService_of_pending (by simp [h]))
    exact hs.congr rfl rfl rfl rfl rfl rfl rfl rfl rfl rfl rfl rfl rfl rfl rfl rfl (by simp [idleStagger])
  case accept | insert | coast | lose | free => exact held_aside.safe.reported.tableMove _ _ _ hs
  case phaseEnds p htest h => exact hs.phaseEnds htest h
  case listenEnds h => exact hs.listenEnds h
  case enterActive h =>
    refine held_aside.safe.allocateBoth ?_
    exact (hs.setLifecycle .active (by rw [h]; rfl) rfl).congr rfl rfl rfl rfl rfl rfl rfl rfl rfl rfl rfl rfl rfl rfl rfl rfl id
  case enterIsolated h =>
    have hfan : StationHeld (fanFollows (setSticky .isolated (setLifecycle .isolated
        { s with bus := { s.bus with lastHeard := none } }))) := by
      refine held_aside.safe.fanFollows (held_aside.sticky _ _ (StationHeld.setLifecycle _ ?_ ?_ rfl))
      · exact hs.congr rfl rfl rfl rfl rfl rfl rfl rfl rfl rfl rfl rfl rfl rfl rfl rfl id
      · rcases h with h | h <;> simp [h, Lifecycle.inService]
    unfold Machine.enterIsolated
    dsimp only
    split
    · exact held_aside.holdTest (held_aside.zeroGrants hfan)
    · exact hfan
  case rejoin h =>
    refine held_aside.safe.fanFollows (StationHeld.setLifecycle _ ?_ (by simp [h, Lifecycle.inService]) rfl)
    exact hs.congr rfl rfl rfl rfl rfl rfl rfl rfl rfl rfl rfl rfl rfl rfl rfl rfl id
  case judgeClash =>
    have hclash (n : Timer) : StationHeld { s with bus := { s.bus with clashTimer := n, clash := true } } :=
      hs.congr rfl rfl rfl rfl rfl rfl rfl rfl rfl rfl rfl rfl rfl rfl rfl rfl id
    unfold Machine.judgeClash
    dsimp only
    split
    · exact hclash _
    · exact held_aside.zeroGrants (held_aside.sticky _ _ (held_aside.reconciler _ _ (hclash _)))
  case clashEnds =>
    unfold Machine.clashEnds
    dsimp only
    refine held_aside.safe.allocateBoth ?_
    split <;> exact hs.congr rfl rfl rfl rfl rfl rfl rfl rfl rfl rfl rfl rfl rfl rfl rfl rfl id
  case gate n h => exact hs.congr rfl rfl rfl rfl rfl rfl rfl h.symm rfl rfl rfl rfl rfl rfl rfl rfl id
  case announceTimer h => exact hs.congr rfl rfl rfl rfl rfl rfl rfl rfl rfl rfl rfl rfl rfl rfl rfl h.symm id
  case stagger hp _ => exact hs.congr rfl rfl rfl rfl rfl rfl rfl rfl rfl rfl rfl rfl rfl rfl rfl rfl hp
  all_goals
    exact hs.congr (by simp) (by simp) (by simp) (by simp) (by simp) (by simp) (by simp) (by simp) (by simp) (by simp)
      (by simp) (by simp) (by simp) (by simp) (by simp) (by simp) (by simp)

/-- The passing of a millisecond lets timers run and starts or stops none. -/
theorem StationHeld.tick (hs : StationHeld s) : StationHeld (tick s) := by
  obtain ⟨hout, hsafe, hconfig, htest, hphase⟩ := hs.safe
  refine ⟨hs.wheel.congr rfl rfl rfl (by simp [Machine.tick, runDown]) (by simp [Machine.tick]) (by simp [Machine.tick, runDown]) rfl rfl,
    hs.pair, ⟨fun h => ?_, hsafe, hconfig, by simpa [Machine.tick] using htest, fun p hp => ?_⟩,
    serviceTimers_congr hs.timers rfl (by simp [Machine.tick, runDown]) (by simp [Machine.tick, runDown]) id⟩
  · obtain ⟨hwheel, hidle, hvalve, happlied⟩ := hout h
    exact ⟨hwheel, by simp [Machine.tick, hidle], hvalve, happlied⟩
  · obtain ⟨q, hq, rfl⟩ : ∃ q, s.output.test = some q ∧ { q with left := q.left - 1 } = p := by
      simpa [Machine.tick] using hp
    exact hphase q hq

/-- Settles O23, by the moves: what moves the wheel or the lifecycle state moves outputs and timers with it. -/
theorem wheelAndSafeStateHold : Obligations.WheelAndSafeStateHold := by
  unfold Obligations.WheelAndSafeStateHold
  intro s t hwheel hsafe htimers hstep
  rw [← stationHeld_iff]
  exact step_keeps (I := StationHeld)
    (fun _ _ hs => hs.congr rfl rfl rfl rfl rfl rfl rfl rfl rfl rfl rfl rfl rfl rfl rfl rfl id) (fun _ => StationHeld.tick)
    (fun _ _ _ => Move.keeps_held) ((stationHeld_iff s).mpr ⟨hwheel, hsafe, htimers⟩) hstep

end Sys2Proof.Machine
end


-- ==== Sys2Proof/Proofs/ReliefFan.lean ====
section
/-! SUPPORT. The relief fan follows its condition, and its suspension follows ISOLATED and BUS_STUCK (R127 to R131). -/

namespace Sys2Proof.Machine

variable {c : Instr} {s t : State} {P : Prop}

/-! ### The condition -/

/-- A record that holds the fan condition: a member of the riser group, not LOST, with relief in use (R127). -/
def PeerRecord.holdsFan (r : PeerRecord) : Bool := r.sameRiser && decide (r.state ≠ .lost) && decide (0 < r.said.relief.inUse)

theorem fanCondition_eq (s : State) :
    fanCondition s = (decide (0 < s.allocator.relief.grant) || s.table.records.any PeerRecord.holdsFan) := rfl

theorem fanCondition_congr (hgrant : t.allocator.relief.grant = s.allocator.relief.grant)
    (htable : t.table.records.any PeerRecord.holdsFan = s.table.records.any PeerRecord.holdsFan) :
    fanCondition t = fanCondition s := by rw [fanCondition_eq, fanCondition_eq, hgrant, htable]

/-- The condition stays when a record is replaced by one that holds it alike. -/
theorem any_replaceRecord {l : List PeerRecord} (h : Ascending l) {old new : PeerRecord} (hold : old ∈ l)
    (haddress : new.address = old.address) (hnew : new.holdsFan = old.holdsFan) :
    (replaceRecord new l).any PeerRecord.holdsFan = l.any PeerRecord.holdsFan := by
  have hmap : (replaceRecord new l).map PeerRecord.holdsFan = l.map PeerRecord.holdsFan := by
    unfold replaceRecord
    rw [List.map_map]
    refine List.map_congr_left fun x hx => ?_
    dsimp only [Function.comp]
    split
    · rename_i hxa
      rw [hnew, h.eq_of_address hold hx (haddress.symm.trans hxa.symm)]
    · rfl
  have hany (m : List PeerRecord) : m.any PeerRecord.holdsFan = (m.map PeerRecord.holdsFan).any id := by simp
  rw [hany, hmap, ← hany]

/-- The condition stays when a record that does not hold it goes. -/
theorem any_removeRecord {l : List PeerRecord} (h : Ascending l) {v : PeerRecord} (hv : v ∈ l) (hfan : v.holdsFan = false) :
    (removeRecord v.address l).any PeerRecord.holdsFan = l.any PeerRecord.holdsFan := by
  rw [Bool.eq_iff_iff, List.any_eq_true, List.any_eq_true]
  refine exists_congr fun x => and_congr_left fun hx => ?_
  have hne : x ∈ l → x.address ≠ v.address := fun hxl hxa => by
    rw [h.eq_of_address hxl hv hxa, hfan] at hx
    cases hx
  simpa [removeRecord] using hne

/-- The condition stays when a record that does not hold it comes. -/
theorem any_insertRecord {r : PeerRecord} (l : List PeerRecord) (hfan : r.holdsFan = false) :
    (insertRecord r l).any PeerRecord.holdsFan = l.any PeerRecord.holdsFan := by
  rw [Bool.eq_iff_iff, List.any_eq_true, List.any_eq_true]
  refine exists_congr fun x => and_congr_left fun hx => ?_
  have hne : x ≠ r := fun hxr => by rw [hxr, hfan] at hx; cases hx
  simp [hne]

/-! ### The fan, with its condition or without -/

/-- The fan as `fanSound` has it, following its condition as far as `P` asks it to. -/
structure FanHeld (P : Prop) (s : State) : Prop where
  owner : s.cfg.fanOwner = false → s.fan.state = .off ∧ s.fan.reliefRun = false ∧ s.fan.suspended = false
  suspension : fanActive s = true → s.fan.suspended = suspensionDue s
  run : fanActive s = true → s.fan.suspended = false → (s.fan.reliefRun = true ↔ s.fan.state ≠ .off)
  follows : P → fanActive s = true → s.fan.suspended = false → (s.fan.state = .on ↔ fanCondition s = true)

theorem fanSound_iff (s : State) : fanSound s ↔ FanHeld True s :=
  ⟨fun ⟨howner, hsuspension, hactive⟩ =>
      ⟨howner, hsuspension, fun h h' => (hactive ⟨h, h'⟩).2, fun _ h h' => (hactive ⟨h, h'⟩).1⟩,
    fun ⟨howner, hsuspension, hrun, hfollows⟩ =>
      ⟨howner, hsuspension, fun ⟨h, h'⟩ => ⟨hfollows trivial h h', hrun h h'⟩⟩⟩

theorem FanHeld.weaken (hs : FanHeld True s) : FanHeld P s := ⟨hs.owner, hs.suspension, hs.run, fun _ => hs.follows trivial⟩

theorem owner_of_fanActive (h : fanActive s = true) : s.cfg.fanOwner = true := by
  simp only [fanActive, Bool.and_eq_true] at h
  exact h.1

/-- A fan that is not active has only the owner setting to follow. -/
theorem FanHeld.of_not_active (howner : s.cfg.fanOwner = false → s.fan.state = .off ∧ s.fan.reliefRun = false ∧ s.fan.suspended = false)
    (h : fanActive s = false) : FanHeld P s where
  owner := howner
  suspension h' := by rw [h] at h'; cases h'
  run h' := by rw [h] at h'; cases h'
  follows _ h' := by rw [h] at h'; cases h'

/-- The fan stays as it is when it is moved by nothing, and its condition stays. -/
theorem FanHeld.congr (hs : FanHeld P s) (hfan : t.fan = s.fan) (hcfg : t.startUp.settings = s.startUp.settings)
    (hactive : fanActive t = fanActive s) (hdue : suspensionDue t = suspensionDue s)
    (hcondition : P → fanCondition t = fanCondition s) : FanHeld P t where
  owner := by
    unfold State.cfg
    rw [hfan, hcfg]
    exact hs.owner
  suspension := by rw [hfan, hactive, hdue]; exact hs.suspension
  run := by rw [hfan, hactive]; exact hs.run
  follows hP := by rw [hfan, hactive, hcondition hP]; exact hs.follows hP

/-- The same, where lifecycle state and BUS_STUCK stay. -/
theorem FanHeld.frame (hs : FanHeld P s) (hfan : t.fan = s.fan) (hcfg : t.startUp.settings = s.startUp.settings)
    (hlifecycle : t.startUp.lifecycle = s.startUp.lifecycle) (hstuck : t.bus.stuck = s.bus.stuck)
    (hcondition : P → fanCondition t = fanCondition s) : FanHeld P t :=
  hs.congr hfan hcfg (by simp [fanActive, State.cfg, hcfg, hlifecycle]) (by simp [suspensionDue, hlifecycle, hstuck]) hcondition

/-! ### The operations -/

theorem fanNext_on (n : Nat) (v : Bool) (f : Fan) : (fanNext n v f).state = .on ↔ v = true := by
  obtain ⟨x, n', x', r⟩ := f
  cases x <;> cases v <;> simp [fanNext]
  split <;> simp

theorem fanNext_run (n : Nat) (v : Bool) (f : Fan) (h : f.reliefRun = true ↔ f.state ≠ .off) :
    (fanNext n v f).reliefRun = true ↔ (fanNext n v f).state ≠ .off := by
  obtain ⟨x, n', x', r⟩ := f
  cases x <;> cases v <;> simp_all [fanNext]
  split <;> simp

theorem fanNext_suspended (n : Nat) (v : Bool) (f : Fan) : (fanNext n v f).suspended = f.suspended := by
  obtain ⟨x, n', x', r⟩ := f
  cases x <;> cases v <;> simp [fanNext]
  split <;> rfl

/-- An evaluation leaves the fan ON exactly while the condition holds (R128). -/
theorem FanHeld.evaluateFan (hs : FanHeld P s) : FanHeld True (evaluateFan s) := by
  have hcfg' : (Machine.evaluateFan s).cfg = s.cfg := by simp [State.cfg]
  have hactive' : fanActive (Machine.evaluateFan s) = fanActive s := by simp [fanActive, hcfg']
  have hdue' : suspensionDue (Machine.evaluateFan s) = suspensionDue s := by simp [suspensionDue]
  have hcondition' : fanCondition (Machine.evaluateFan s) = fanCondition s := fanCondition_congr (by simp) (by simp)
  by_cases h : fanActive s = true ∧ s.fan.suspended = false
  · obtain ⟨hactive, hsuspended⟩ := h
    have howner := owner_of_fanActive hactive
    have hnext := evaluateFan_spec s hactive hsuspended
    refine ⟨fun h => ?_, ?_, ?_, ?_⟩
    · rw [hcfg'] at h
      exact absurd (howner.symm.trans h) (by decide)
    · rw [hactive', hdue', hnext, fanNext_suspended]
      exact hs.suspension
    · intro _ _
      rw [hnext]
      exact fanNext_run _ _ _ (hs.run hactive hsuspended)
    · intro _ _ _
      rw [hnext, hcondition']
      exact fanNext_on _ _ _
  · have hsame : Machine.evaluateFan s = s := by
      unfold Machine.evaluateFan
      rw [if_neg]
      simpa using h
    rw [hsame]
    exact ⟨hs.owner, hs.suspension, hs.run, fun _ h1 h2 => absurd ⟨h1, h2⟩ h⟩

/-- A suspension begins where it is due (R130). -/
theorem fanHeld_suspendFan (hactive : fanActive s = true) (hdue : suspensionDue s = true) : FanHeld True (suspendFan s) where
  owner h := absurd ((owner_of_fanActive hactive).symm.trans h) (by decide)
  suspension _ := hdue.symm
  run _ h := by simp [suspendFan] at h
  follows _ _ h := by simp [suspendFan] at h

/-- A suspension or dormancy ends where none is due (R130, R131). -/
theorem fanHeld_resumeFan (hactive : fanActive s = true) (hdue : suspensionDue s = false) : FanHeld True (resumeFan s) := by
  refine FanHeld.evaluateFan (P := False) ⟨fun h => ?_, fun _ => hdue.symm, fun _ _ => by simp, False.elim⟩
  exact absurd ((owner_of_fanActive hactive).symm.trans h) (by decide)

/-- The suspension follows ISOLATED and BUS_STUCK; a fan that was not suspended followed its condition already (R130). -/
theorem fanHeld_fanFollows (howner : s.cfg.fanOwner = false → s.fan.state = .off ∧ s.fan.reliefRun = false ∧ s.fan.suspended = false)
    (hrun : fanActive s = true → s.fan.suspended = false → (s.fan.reliefRun = true ↔ s.fan.state ≠ .off))
    (hfollows : fanActive s = true → s.fan.suspended = false → (s.fan.state = .on ↔ fanCondition s = true)) :
    FanHeld True (fanFollows s) := by
  cases hactive : fanActive s
  · have hsame : fanFollows s = s := by simp [fanFollows, hactive]
    rw [hsame]
    exact .of_not_active howner hactive
  · cases hdue : suspensionDue s <;> cases hsuspended : s.fan.suspended
    · have hsame : fanFollows s = s := by simp [fanFollows, hactive, hdue, hsuspended]
      rw [hsame]
      exact ⟨howner, fun _ => by rw [hsuspended, hdue], hrun, fun _ => hfollows⟩
    · have hresume : fanFollows s = resumeFan s := by simp [fanFollows, hactive, hdue, hsuspended]
      rw [hresume]
      exact fanHeld_resumeFan hactive hdue
    · have hsuspend : fanFollows s = suspendFan s := by simp [fanFollows, hactive, hdue, hsuspended]
      rw [hsuspend]
      exact fanHeld_suspendFan hactive hdue
    · have hsame : fanFollows s = s := by simp [fanFollows, hactive, hdue, hsuspended]
      rw [hsame]
      exact ⟨howner, fun _ => by rw [hsuspended, hdue], hrun, fun _ => hfollows⟩

/-- The same after a change that leaves fan, activity and condition. -/
theorem FanHeld.fanFollows (hs : FanHeld True s) (hfan : t.fan = s.fan) (hcfg : t.startUp.settings = s.startUp.settings)
    (hactive : fanActive t = fanActive s) (hcondition : fanCondition t = fanCondition s) : FanHeld True (fanFollows t) := by
  refine fanHeld_fanFollows ?_ ?_ ?_
  · unfold State.cfg
    rw [hfan, hcfg]
    exact hs.owner
  · rw [hfan, hactive]
    exact hs.run
  · rw [hfan, hactive, hcondition]
    exact hs.follows trivial

/-- A grant that is reduced is followed: the relief grant by an evaluation, the WFC grant is not in the condition (R108, R127). -/
theorem FanHeld.reduceGrant (b : Budget) (hs : FanHeld P s) : FanHeld P (reduceGrant b s) := by
  unfold Machine.reduceGrant
  dsimp only
  split
  · cases b
    case relief =>
      refine FanHeld.weaken (FanHeld.evaluateFan (P := False) ?_)
      exact FanHeld.frame (P := False) ⟨hs.owner, hs.suspension, hs.run, False.elim⟩ (by simp) (by simp) (by simp) (by simp)
        False.elim
    case wfc =>
      exact hs.frame (by simp [handOnGrant]) (by simp [handOnGrant]) (by simp [handOnGrant]) (by simp [handOnGrant])
        fun _ => fanCondition_congr (by simp [handOnGrant, Allocator.set]) (by simp [handOnGrant])
  · exact hs

theorem FanHeld.allocate (b : Budget) (hs : FanHeld P s) : FanHeld P (allocate b s) :=
  FanHeld.reduceGrant b (hs.frame rfl rfl rfl rfl fun _ => fanCondition_congr (by cases b <;> rfl) rfl)

theorem FanHeld.allocateBoth (hs : FanHeld P s) : FanHeld P (allocateBoth s) := FanHeld.allocate .wfc (hs.allocate .relief)

theorem FanHeld.zeroGrant (b : Budget) (hs : FanHeld P s) : FanHeld P (zeroGrant b s) :=
  FanHeld.reduceGrant b (hs.frame rfl rfl rfl rfl fun _ => fanCondition_congr (by cases b <;> rfl) rfl)

theorem FanHeld.zeroGrants (hs : FanHeld P s) : FanHeld P (zeroGrants s) :=
  ((hs.zeroGrant .relief).zeroGrant .wfc).allocateBoth

theorem FanHeld.reportReference (before : Reference) (hs : FanHeld P s) : FanHeld P (reportReference before s) := by
  unfold Machine.reportReference derate
  dsimp only
  split_ifs
  · exact hs
  · exact hs
  · exact FanHeld.allocate .wfc (hs.frame rfl rfl rfl rfl fun _ => rfl)

theorem FanHeld.recompute (hs : FanHeld P s) : FanHeld P (recompute s) :=
  FanHeld.reportReference _ (hs.frame rfl rfl rfl rfl fun _ => rfl)

theorem FanHeld.reportAllocate (p : Report) (hs : FanHeld P s) : FanHeld P (reportAllocate p s) := by
  unfold Machine.reportAllocate
  dsimp only
  have hrelief : FanHeld P (if p.relief = true then Machine.allocate .relief s else s) := by
    split
    · exact hs.allocate _
    · exact hs
  split
  · exact hrelief.allocate _
  · exact hrelief

theorem FanHeld.reportRecompute (p : Report) (hs : FanHeld P s) : FanHeld P (reportRecompute p s) := by
  unfold Machine.reportRecompute
  split
  · exact hs.recompute
  · exact hs

/-- A change of the table that is not reported to the fan leaves the condition; one that is has it evaluated (R90). -/
theorem FanHeld.reportChange (order : ReportOrder) (p : Report) (hs : FanHeld (p.fan = false) s) :
    FanHeld True (reportChange order p s) := by
  unfold Machine.reportChange
  dsimp only
  have hboth : FanHeld (p.fan = false) (match order with
      | .reconcilerFirst => Machine.reportAllocate p (Machine.reportRecompute p s)
      | .allocatorFirst => Machine.reportRecompute p (Machine.reportAllocate p s)) := by
    cases order
    · exact (hs.reportRecompute p).reportAllocate p
    · exact (hs.reportAllocate p).reportRecompute p
  split
  · exact hboth.evaluateFan
  · rename_i hp
    exact ⟨hboth.owner, hboth.suspension, hboth.run, fun _ => hboth.follows (by simpa using hp)⟩

theorem FanHeld.tableMove (order : ReportOrder) (p : Report) (x : PeerTable) (hs : FanHeld True s)
    (htable : p.fan = false → x.records.any PeerRecord.holdsFan = s.table.records.any PeerRecord.holdsFan) :
    FanHeld True (Machine.reportChange order p { s with table := x }) :=
  FanHeld.reportChange order p (hs.weaken.frame rfl rfl rfl rfl fun h => fanCondition_congr rfl (htable h))

/-- An acceptance that is not reported to the fan leaves what its record holds (R90). -/
theorem holdsFan_of_acceptReport {old new : PeerRecord} (h : (acceptReport old new).fan = false) : new.holdsFan = old.holdsFan := by
  simp only [acceptReport, Bool.and_eq_false_iff, Bool.or_eq_false_iff, decide_eq_false_iff_not, not_or, not_not] at h
  rcases h with ⟨hold, hnew⟩ | ⟨⟨hstate, hriser, -⟩, huse⟩
  · simp [PeerRecord.holdsFan, hold, hnew]
  · simp [PeerRecord.holdsFan, hstate, hriser, huse]

/-- LISTEN ends with the fan control of an owner active (R131). -/
theorem FanHeld.activateFan (howner : s.cfg.fanOwner = false → s.fan.state = .off ∧ s.fan.reliefRun = false ∧ s.fan.suspended = false) :
    FanHeld True (activateFan s) := by
  unfold Machine.activateFan
  split
  · rename_i hactive
    split
    · exact fanHeld_suspendFan hactive ‹_›
    · rename_i hdue
      exact fanHeld_resumeFan hactive (by simpa using hdue)
  · rename_i hactive
    exact .of_not_active howner (by simpa using hactive)

/-- Out of service no fan control is active. -/
theorem fanActive_of_not_inService (h : s.startUp.lifecycle.inService = false) : fanActive s = false := by simp [fanActive, h]

/-- A fan at its start values out of service. -/
theorem fanHeld_startFan (hfan : s.fan = startFan) (h : s.startUp.lifecycle.inService = false) : FanHeld P s :=
  .of_not_active (fun _ => by simp [hfan, startFan]) (fanActive_of_not_inService h)

theorem FanHeld.forcedChange (hs : FanHeld P s) : FanHeld P (forcedChange s) :=
  hs.frame (by simp) (by simp) (by simp) (by simp) fun _ => fanCondition_congr (by simp) (by simp)

theorem FanHeld.setStuck (v : Bool) (hs : FanHeld True s) : FanHeld True (setStuck v s) := hs.fanFollows rfl rfl rfl rfl

/-! ### The moves -/

/-- Every move lets the fan follow. -/
theorem Move.keeps_fan (h : Move c s t) (htable : tableSound s) (hs : FanHeld True s) : FanHeld True t := by
  obtain ⟨⟨-, hascending, -⟩, -⟩ := (tableSound_iff s).mp htable
  cases h
  case coldStart =>
    refine fanHeld_startFan ?_ (by simp [lifecycle_coldStart, Lifecycle.inService])
    unfold Machine.coldStart
    dsimp only
    split <;> rfl
  case configEnds =>
    refine fanHeld_startFan ?_ ?_
    · unfold Machine.configEnds
      dsimp only
      split <;> simp [handConfiguration, startScanTimer]
    · rw [lifecycle_configEnds]
      split <;> rfl
  case warmStart =>
    refine .of_not_active (fun h => ?_) (fanActive_of_not_inService rfl)
    obtain ⟨hstate, hrun, -⟩ := hs.owner h
    exact ⟨hstate, hrun, rfl⟩
  case recompute => exact hs.recompute
  case holdExpires => exact FanHeld.reportReference _ (hs.frame rfl rfl rfl rfl fun _ => rfl)
  case stageAdopt =>
    refine FanHeld.evaluateFan (P := False) ?_
    exact FanHeld.frame (P := False) (s := s) hs.weaken (by simp) (by simp) (by simp) (by simp) False.elim
  case stageRequests =>
    exact hs.frame (by simp) (by simp) (by simp) (by simp) fun _ => fanCondition_congr (by simp) (by simp)
  case allocate => exact hs.allocate _
  case accept old source gaps a h =>
    refine hs.tableMove _ _ _ fun hp => ?_
    exact any_replaceRecord hascending (findRecord_spec h).1 rfl (holdsFan_of_acceptReport hp)
  case insert evicted source a h0 h64 hown hnone hroom =>
    refine hs.tableMove _ _ _ fun hp => ?_
    simp only [Bool.or_eq_false_iff] at hp
    obtain ⟨hnew, hevicted⟩ := hp
    rw [any_insertRecord _ (by simp [PeerRecord.holdsFan, hnew])]
    rcases hroom with ⟨rfl, -⟩ | ⟨v, hv, rfl⟩
    · rfl
    · exact any_removeRecord hascending hv (by rw [Option.any_some] at hevicted; rw [PeerRecord.holdsFan, hevicted]; rfl)
  case coast r source h hr =>
    refine hs.tableMove _ _ _ fun _ => ?_
    exact any_replaceRecord hascending (findRecord_spec h).1 rfl (by unfold PeerRecord.holdsFan; rw [hr]; rfl)
  case lose r source h hr =>
    refine hs.tableMove _ _ _ fun hp => ?_
    have hriser : r.sameRiser = false := hp
    exact any_replaceRecord hascending (findRecord_spec h).1 rfl (by simp [PeerRecord.holdsFan, aged, hriser])
  case free r source h hr =>
    refine hs.tableMove _ _ _ fun _ => ?_
    exact any_removeRecord hascending (findRecord_spec h).1 (by simp [PeerRecord.holdsFan, hr])
  case phaseEnds p _ h =>
    refine .of_not_active ?_ (fanActive_of_not_inService ?_)
    · simpa [State.cfg] using hs.owner
    · rw [lifecycle_phaseEnds p s h]
      split <;> rfl
  case listenEnds =>
    refine FanHeld.activateFan ?_
    simpa [State.cfg] using hs.owner
  case enterActive h =>
    refine FanHeld.allocateBoth (hs.congr rfl rfl ?_ ?_ fun _ => fanCondition_congr rfl rfl)
    · simp [fanActive, State.cfg, clearRequests, setLifecycle, refreshAlarm, h, Lifecycle.inService]
    · simp [suspensionDue, clearRequests, setLifecycle, refreshAlarm, h]
  case enterIsolated h =>
    have hfan : FanHeld True (fanFollows (setSticky .isolated (setLifecycle .isolated
        { s with bus := { s.bus with lastHeard := none } }))) := by
      refine hs.fanFollows rfl rfl ?_ rfl
      rcases h with h | h <;> simp [fanActive, State.cfg, setSticky, setLifecycle, refreshAlarm, h, Lifecycle.inService]
    unfold Machine.enterIsolated
    dsimp only
    split
    · exact hfan.zeroGrants.frame (by simp) (by simp) (by simp) (by simp) fun _ => fanCondition_congr (by simp) (by simp)
    · exact hfan
  case rejoin h =>
    refine hs.fanFollows rfl rfl ?_ rfl
    simp [fanActive, State.cfg, setLifecycle, refreshAlarm, h, Lifecycle.inService]
  case judgeClash =>
    unfold Machine.judgeClash
    dsimp only
    split
    · exact hs.frame rfl rfl rfl rfl fun _ => rfl
    · exact FanHeld.zeroGrants (hs.frame rfl rfl rfl rfl fun _ => rfl)
  case clashEnds =>
    unfold Machine.clashEnds
    dsimp only
    refine FanHeld.allocateBoth ?_
    split <;> exact hs.frame rfl rfl rfl rfl fun _ => rfl
  case offDelayEnds hactive hsuspended hstate =>
    have hnot : ¬ fanCondition s = true := fun h => by simpa [hstate, h] using hs.follows trivial hactive hsuspended
    refine ⟨fun h => absurd ((owner_of_fanActive hactive).symm.trans h) (by decide), hs.suspension, fun _ _ => by simp, fun _ _ _ => ?_⟩
    exact ⟨nofun, fun h => absurd h hnot⟩
  case stuck => exact hs.setStuck true
  case lineIdles =>
    have hunstick : FanHeld True (if s.bus.stuck = true then setStuck false s else s) := by
      split
      · exact hs.setStuck false
      · exact hs
    exact hunstick.frame (by simp) (by simp) (by simp) (by simp) fun _ => fanCondition_congr (by simp) (by simp)
  all_goals
    exact hs.frame (by simp) (by simp) (by simp) (by simp) fun _ => fanCondition_congr (by simp) (by simp)

theorem FanHeld.tick (hs : FanHeld True s) : FanHeld True (tick s) := by
  have htable : (Machine.tick s).table.records.any PeerRecord.holdsFan = s.table.records.any PeerRecord.holdsFan := by
    simp only [Machine.tick, List.any_map]
    rfl
  have hcondition : fanCondition (Machine.tick s) = fanCondition s := fanCondition_congr rfl htable
  exact ⟨hs.owner, hs.suspension, hs.run, fun _ => by rw [hcondition]; exact hs.follows trivial⟩

/-- Settles O24, by the moves: what changes the condition evaluates it, and what changes ISOLATED or BUS_STUCK moves the suspension. -/
theorem fanFollowsItsCondition : Obligations.FanFollowsItsCondition := by
  unfold Obligations.FanFollowsItsCondition
  refine ⟨fun s t htable hs hstep => ?_, fun s => ?_⟩
  · rw [fanSound_iff] at hs ⊢
    refine And.right (step_keeps (I := fun u => tableSound u ∧ FanHeld True u) (fun _ _ h => ?_) (fun u h => ?_)
      (fun _ _ _ hm h => ⟨hm.keeps_table h.1, hm.keeps_fan h.1 h.2⟩) ⟨htable, hs⟩ hstep)
    · exact ⟨h.1, h.2.frame rfl rfl rfl rfl fun _ => rfl⟩
    · exact ⟨tableSound_tick h.1, h.2.tick⟩
  · rw [fanCondition_eq, Bool.or_eq_true, decide_eq_true_eq, List.any_eq_true]
    refine or_congr_right (exists_congr fun r => and_congr_right fun _ => ?_)
    cases hr : r.state <;> simp [PeerRecord.holdsFan, hr]

end Sys2Proof.Machine
end


-- ==== Sys2Proof/Proofs/Slots.lean ====
section
/-! SUPPORT. The transmit slots, the frame on the line, and an idle line that is served (R162, R163, R172). -/

namespace Sys2Proof.Machine

variable {c : Instr} {s t : State}

/-! ### The slots and the frame on the line -/

@[simp] theorem displaced_isSome (x : Slot) (o : Option Transmission) : (displaced x o).isSome = o.isSome := by
  simp [displaced]

@[simp] theorem forcedChange_bus (s : State) : (forcedChange s).bus = (cancelPending s).bus := by simp [forcedChange]

@[simp] theorem cancelPending_onAir (s : State) : (cancelPending s).bus.onAir.isSome = s.bus.onAir.isSome := by
  unfold cancelPending
  split
  · simp [withdrawIntent]
  · rfl

/-- A cancellation leaves the INTENT slot as it is, or empties it (R125). -/
theorem cancelPending_intentSlot (s : State) :
    (cancelPending s).bus.intentSlot = s.bus.intentSlot ∨ (cancelPending s).bus.intentSlot = none := by
  unfold cancelPending
  split
  · exact .inr rfl
  · exact .inl rfl

theorem slotsSound_congr (hs : slotsSound s) (hreplies : t.bus.replySlots = s.bus.replySlots)
    (honAir : t.bus.onAir.isSome = s.bus.onAir.isSome) (htransmitter : t.bus.transmitter = s.bus.transmitter)
    (hreceiver : t.bus.receiver = s.bus.receiver) : slotsSound t := by
  unfold slotsSound
  rw [hreplies, honAir, htransmitter, hreceiver]
  exact hs

/-- A bus with a QUIET transmitter and no frame on the line. -/
theorem slotsSound_quiet (hreplies : t.bus.replySlots.length ≤ 2) (hquiet : t.bus.transmitter = .quiet)
    (honAir : t.bus.onAir = none) : slotsSound t := by
  refine ⟨hreplies, ?_, fun h => absurd hquiet h⟩
  rw [honAir, hquiet]
  decide

/-- What is begun is on the line, with the receiver COLLECTING (R163). -/
theorem slotsSound_beginFrame (hs : slotsSound s) : slotsSound (beginFrame s) := by
  rcases beginFrame_cases s with h | ⟨x, f, -, -, -, -, h⟩
  · rw [h]; exact hs
  · rw [h]
    exact ⟨hs.1, by simp, by simp⟩

theorem slots_aside : Aside slotsSound where
  allocator _ _ := id
  table _ _ := id
  fan _ _ := id
  reconciler _ _ := id
  sticky _ _ := id
  driveDampers _ hs := slotsSound_congr hs (by simp) (by simp) (by simp) (by simp)
  driveValve _ hs := slotsSound_congr hs (by simp) (by simp) (by simp) (by simp)
  forcedChange _ hs := slotsSound_congr hs (by simp) (by simp) (by simp) (by simp)

theorem slotsSound_setOutcome (d : Damper) (o : Polarity) (hs : slotsSound s) : slotsSound (setOutcome d o s) := by
  have hrecord : slotsSound (recordOutcome d o s) := slotsSound_congr hs (by simp) (by simp) (by simp) (by simp)
  rw [setOutcome_eq]
  split
  · exact slots_aside.forcedChange _ hrecord
  · exact hrecord

theorem slotsSound_setStuck (v : Bool) (hs : slotsSound s) : slotsSound (setStuck v s) := slots_aside.safe.fanFollows hs

theorem bus_coldStart (hi lo : Ratio) (record : List Byte) (s : State) : (coldStart hi lo record s).bus = startBus .off := by
  unfold coldStart; dsimp only; split <;> rfl

theorem bus_configEnds (s : State) : (configEnds s).bus = startBus .waitIdle := by
  unfold configEnds; dsimp only; split <;> simp [handConfiguration, startScanTimer]

theorem onAir_endTransmission (r : Receiver) (remnant : Bool) (x : Transmission) (s : State) :
    (endTransmission r remnant x s).bus.onAir = none ∧ (endTransmission r remnant x s).bus.transmitter = .quiet ∧
    (endTransmission r remnant x s).bus.receiver = r := by
  simp [endTransmission]

/-- An outcome empties the slot of its frame at most (R165, R166). -/
theorem slots_endTransmission (r : Receiver) (remnant : Bool) (x : Transmission) (s : State) :
    ((endTransmission r remnant x s).bus.announceSlot = s.bus.announceSlot ∨
      (endTransmission r remnant x s).bus.announceSlot = none) ∧
    ((endTransmission r remnant x s).bus.intentSlot = s.bus.intentSlot ∨ (endTransmission r remnant x s).bus.intentSlot = none) ∧
    ((endTransmission r remnant x s).bus.replySlots = s.bus.replySlots ∨
      (endTransmission r remnant x s).bus.replySlots = s.bus.replySlots.drop 1) := by
  unfold endTransmission emptySlot
  split
  · split <;> simp
  · simp

/-- Every move keeps the slots sound. -/
theorem Move.keeps_slots (h : Move c s t) (hs : slotsSound s) : slotsSound t := by
  have ⟨hreplies, honAir, hreceiver⟩ := hs
  cases h
  case coldStart =>
    exact slotsSound_quiet (by simp [bus_coldStart, startBus]) (by simp [bus_coldStart, startBus])
      (by simp [bus_coldStart, startBus])
  case configEnds =>
    exact slotsSound_quiet (by simp [bus_configEnds, startBus]) (by simp [bus_configEnds, startBus])
      (by simp [bus_configEnds, startBus])
  case warmStart => exact slotsSound_quiet (Nat.zero_le _) rfl rfl
  case recompute => exact slots_aside.safe.recompute hs
  case holdExpires => exact slots_aside.safe.holdExpires hs
  case declareStall =>
    unfold Machine.declareStall
    dsimp only
    split
    · exact slots_aside.forcedChange _ hs
    · exact hs
  case outcome => exact slotsSound_setOutcome _ _ hs
  case stageRequests => exact slots_aside.holdTest (slots_aside.driveDampers _ hs)
  case allocate => exact slots_aside.safe.allocate _ _ hs
  case forcedChange => exact slots_aside.forcedChange _ hs
  case accept | insert | coast | lose | free => exact slots_aside.safe.reported.tableMove _ _ _ hs
  case phaseEnds p _ _ =>
    have hdrive (q : PolarityTest) (byp oa : Nat) {u : State} (hu : slotsSound u) : slotsSound (drivePhase q byp oa u) :=
      slotsSound_congr hu (by simp) (by simp) (by simp) (by simp)
    unfold Machine.phaseEnds
    dsimp only
    split
    · exact hdrive _ _ _ hs
    · exact hdrive _ _ _ (slotsSound_setOutcome _ _ hs)
    · exact hdrive _ _ _ hs
    · have hset := slotsSound_setOutcome .outdoor (polarityOf p.outdoorA (s.reading .oaFb)) hs
      exact slotsSound_congr hset (by simp) (by simp) (by simp) (by simp)
  case enterActive => exact slots_aside.safe.allocateBoth hs
  case enterIsolated =>
    have hfan : slotsSound (fanFollows (setSticky .isolated (setLifecycle .isolated
      { s with bus := { s.bus with lastHeard := none } }))) := slots_aside.safe.fanFollows hs
    unfold Machine.enterIsolated
    dsimp only
    split
    · exact slots_aside.holdTest (slots_aside.zeroGrants hfan)
    · exact hfan
  case judgeClash =>
    unfold Machine.judgeClash
    dsimp only
    split
    · exact hs
    · exact slots_aside.zeroGrants hs
  case clashEnds =>
    unfold Machine.clashEnds
    dsimp only
    refine slots_aside.safe.allocateBoth ?_
    split <;> exact hs
  case stuck => exact slotsSound_setStuck _ hs
  case lineIdles hq =>
    have hunstick : slotsSound (if s.bus.stuck = true then setStuck false s else s) := by
      split
      · exact slotsSound_setStuck _ hs
      · exact hs
    have hnone : s.bus.onAir = none := by simpa [hq] using honAir
    exact slotsSound_beginFrame (slotsSound_quiet (by simpa using hreplies) (by simpa using hq) (by simpa using hnone))
  case receiver hq _ =>
    exact slotsSound_quiet hreplies hq (by simpa [hq] using honAir)
  case loses => exact slotsSound_quiet hreplies rfl rfl
  case endTransmission r remnant x _ _ =>
    obtain ⟨honAir', hquiet, -⟩ := onAir_endTransmission r remnant x s
    refine slotsSound_quiet ?_ hquiet honAir'
    obtain ⟨-, -, h | h⟩ := slots_endTransmission r remnant x s <;> rw [h]
    · exact hreplies
    · rw [List.length_drop]; omega
  case placeAnnounce => exact slotsSound_beginFrame ⟨hreplies, by simpa using honAir, hreceiver⟩
  case placeIntent => exact slotsSound_beginFrame ⟨hreplies, by simpa using honAir, hreceiver⟩
  case startPending => exact slotsSound_beginFrame ⟨hreplies, by simpa using honAir, hreceiver⟩
  case placeReply hl =>
    exact slotsSound_beginFrame ⟨by rw [List.length_append, List.length_singleton]; omega, honAir, hreceiver⟩
  all_goals
    exact slotsSound_congr hs (by simp) (by simp) (by simp) (by simp)

/-! ### An idle line is served -/

/-- Timers of service, slots allowed, and nothing left waiting on an idle line. -/
structure LineServed (s : State) : Prop where
  timers : serviceTimers s
  allowed : slotsAllowed s
  served : idleLineServed s

/-- What a station would offer, by the slots its lifecycle state lets it send from (R172). -/
theorem offered_eq_none_iff (s : State) : offered s = none ↔
    (s.startUp.lifecycle.inService = true → s.bus.intentSlot = none ∧ s.bus.announceSlot = none ∧ s.bus.replySlots = []) ∧
    (s.startUp.lifecycle = .listen → s.bus.replySlots = []) := by
  unfold offered
  cases hl : s.startUp.lifecycle <;> cases hi : s.bus.intentSlot <;> cases ha : s.bus.announceSlot <;>
    cases hr : s.bus.replySlots <;> simp [Lifecycle.inService]

/-- A slot that is emptied leaves nothing to offer that was not offered before. -/
theorem offered_none_of_fewer (hlifecycle : t.startUp.lifecycle = s.startUp.lifecycle)
    (hannounce : t.bus.announceSlot = s.bus.announceSlot) (hreplies : t.bus.replySlots = s.bus.replySlots)
    (hintent : t.bus.intentSlot = s.bus.intentSlot ∨ t.bus.intentSlot = none) (h : offered s = none) : offered t = none := by
  rw [offered_eq_none_iff] at h ⊢
  rw [hlifecycle, hannounce, hreplies]
  refine ⟨fun hs => ?_, h.2⟩
  obtain ⟨hi, ha, hr⟩ := h.1 hs
  exact ⟨hintent.elim (fun h => h.trans hi) id, ha, hr⟩

/-- The line stays served when nothing moves but the INTENT, withdrawn. -/
theorem LineServed.congr (hs : LineServed s) (hlifecycle : t.startUp.lifecycle = s.startUp.lifecycle)
    (hannounce : t.bus.announceSlot = s.bus.announceSlot)
    (hintent : t.bus.intentSlot = s.bus.intentSlot ∨ t.bus.intentSlot = none) (hreplies : t.bus.replySlots = s.bus.replySlots)
    (hreceiver : t.bus.receiver = s.bus.receiver) (htransmitter : t.bus.transmitter = .quiet → s.bus.transmitter = .quiet)
    (hstuck : t.bus.stuck = s.bus.stuck) (hdecision : t.engine.decisionTimer.isSome = s.engine.decisionTimer.isSome)
    (htimer : t.bus.announceTimer.isSome = s.bus.announceTimer.isSome)
    (hpending : t.stagger.pending.isSome = true → s.stagger.pending.isSome = true) : LineServed t where
  timers := serviceTimers_congr hs.timers (by rw [hlifecycle]) hdecision htimer hpending
  allowed := by
    obtain ⟨hout, hanswers⟩ := hs.allowed
    unfold slotsAllowed
    rw [hlifecycle, hannounce, hreplies]
    refine ⟨fun h => ?_, hanswers⟩
    obtain ⟨ha, hi⟩ := hout h
    exact ⟨ha, hintent.elim (fun h => h.trans hi) id⟩
  served h hq hu := by
    rw [hreceiver] at h
    rw [hstuck] at hu
    exact offered_none_of_fewer hlifecycle hannounce hreplies hintent (hs.served h (htransmitter hq) hu)

/-- Once a frame is begun where one may be, nothing waits on an idle line (R163). -/
theorem served_beginFrame (s : State) : idleLineServed (beginFrame s) := by
  intro hreceiver hquiet hstuck
  unfold beginFrame at hreceiver hquiet hstuck ⊢
  split at hreceiver
  · split at hreceiver
    · cases hreceiver
    · rename_i h _ hnone
      rw [if_pos h, hnone]
  · rename_i h
    rw [if_neg h] at hquiet hstuck
    exact absurd ⟨hreceiver, hquiet, hstuck⟩ h

theorem lineServed_beginFrame (htimers : serviceTimers s) (hallowed : slotsAllowed s) : LineServed (beginFrame s) :=
  ⟨serviceTimers_congr htimers (by simp) (by simp) (by simp) (by simp), by simpa [slotsAllowed] using hallowed, served_beginFrame s⟩

/-- Where no line is idle, only timers and slots are left to ask for. -/
theorem LineServed.of_busy (htimers : serviceTimers s) (hallowed : slotsAllowed s)
    (h : s.bus.receiver ≠ .idle ∨ s.bus.stuck = true) : LineServed s where
  timers := htimers
  allowed := hallowed
  served hreceiver _ hstuck := by
    rcases h with h | h
    · exact absurd hreceiver h
    · rw [h] at hstuck; cases hstuck

/-- A change of lifecycle state lets no slot be sent from that waited where it might not be sent from. -/
theorem LineServed.lifecycle (hs : LineServed s) (hservice : t.startUp.lifecycle.inService = false → s.startUp.lifecycle.inService = false)
    (hanswers : t.startUp.lifecycle.answers = false → s.startUp.lifecycle.answers = false)
    (hsends : s.startUp.lifecycle.inService = true ∨ s.startUp.lifecycle = .listen ∨ s.startUp.lifecycle = .commission)
    (hannounce : t.bus.announceSlot = s.bus.announceSlot) (hintent : t.bus.intentSlot = s.bus.intentSlot)
    (hreplies : t.bus.replySlots = s.bus.replySlots) (hreceiver : t.bus.receiver = s.bus.receiver)
    (htransmitter : t.bus.transmitter = s.bus.transmitter) (hstuck : t.bus.stuck = s.bus.stuck) (htimers : serviceTimers t) :
    LineServed t where
  timers := htimers
  allowed := by
    unfold slotsAllowed
    rw [hannounce, hintent, hreplies]
    exact ⟨fun h => hs.allowed.1 (hservice h), fun h => hs.allowed.2 (hanswers h)⟩
  served h hq hu := by
    rw [hreceiver] at h
    rw [htransmitter] at hq
    rw [hstuck] at hu
    have hnone := (offered_eq_none_iff s).mp (hs.served h hq hu)
    rw [offered_eq_none_iff, hannounce, hintent, hreplies]
    rcases hsends with hl | hl | hl
    · obtain ⟨hi, ha, hr⟩ := hnone.1 hl
      exact ⟨fun _ => ⟨hi, ha, hr⟩, fun _ => hr⟩
    · have hr := hnone.2 hl
      obtain ⟨ha, hi⟩ := hs.allowed.1 (by rw [hl]; rfl)
      exact ⟨fun _ => ⟨hi, ha, hr⟩, fun _ => hr⟩
    · have hr := hs.allowed.2 (by rw [hl]; rfl)
      obtain ⟨ha, hi⟩ := hs.allowed.1 (by rw [hl]; rfl)
      exact ⟨fun _ => ⟨hi, ha, hr⟩, fun _ => hr⟩

theorem LineServed.cancelPending (hs : LineServed s) : LineServed (cancelPending s) :=
  hs.congr (by simp) (by simp) (cancelPending_intentSlot s) (by simp) (by simp) (by simp) (by simp) (by simp) (by simp) (by simp)

theorem LineServed.forcedChange (hs : LineServed s) : LineServed (forcedChange s) :=
  hs.congr (by simp) (by simp) (by simpa using cancelPending_intentSlot s) (by simp) (by simp) (by simp) (by simp) (by simp)
    (by simp) (by simp [Machine.forcedChange])

theorem served_aside : Aside LineServed where
  allocator _ _ hs := hs.congr rfl rfl (.inl rfl) rfl rfl id rfl rfl rfl id
  table _ _ hs := hs.congr rfl rfl (.inl rfl) rfl rfl id rfl rfl rfl id
  fan _ _ hs := hs.congr rfl rfl (.inl rfl) rfl rfl id rfl rfl rfl id
  reconciler _ _ hs := hs.congr rfl rfl (.inl rfl) rfl rfl id rfl rfl rfl id
  sticky _ _ hs := hs.congr rfl rfl (.inl rfl) rfl rfl id rfl rfl rfl id
  driveDampers _ hs := hs.congr (by simp) (by simp) (by simp) (by simp) (by simp) (by simp) (by simp) (by simp) (by simp) (by simp)
  driveValve _ hs := hs.congr (by simp) (by simp) (by simp) (by simp) (by simp) (by simp) (by simp) (by simp) (by simp) (by simp)
  forcedChange _ := LineServed.forcedChange

theorem LineServed.setOutcome (d : Damper) (o : Polarity) (hs : LineServed s) : LineServed (setOutcome d o s) := by
  have hrecord : LineServed (recordOutcome d o s) :=
    hs.congr (by simp) (by simp) (by simp) (by simp) (by simp) (by simp) (by simp) (by simp) (by simp) (by simp)
  rw [setOutcome_eq]
  split
  · exact hrecord.forcedChange
  · exact hrecord

/-- A bus at its start values has nothing to send. -/
theorem lineServed_startBus {r : Receiver} (hbus : t.bus = startBus r) (hservice : t.startUp.lifecycle.inService = false)
    (hdecision : t.engine.decisionTimer = none) (hpending : t.stagger.pending = none) : LineServed t where
  timers := ⟨by simp [hdecision, hservice], by simp [hbus, startBus, hservice], by simp [hpending]⟩
  allowed := by simp [slotsAllowed, hbus, startBus]
  served _ _ _ := by simp [offered_eq_none_iff, hbus, startBus]

/-! ### The moves -/

theorem Move.keeps_served (h : Move c s t) (hs : LineServed s) : LineServed t := by
  cases h
  case coldStart =>
    refine lineServed_startBus (bus_coldStart _ _ _ _) (by simp [lifecycle_coldStart, Lifecycle.inService]) ?_ ?_
    · unfold Machine.coldStart; dsimp only; split <;> rfl
    · unfold Machine.coldStart; dsimp only; split <;> rfl
  case configEnds =>
    refine lineServed_startBus (bus_configEnds _) ?_ (by simp [engine_configEnds, startEngine]) ?_
    · rw [lifecycle_configEnds]
      split <;> rfl
    · unfold Machine.configEnds; dsimp only; split <;> simp [handConfiguration, startScanTimer, idleStagger]
  case warmStart =>
    refine ⟨⟨rfl, rfl, nofun⟩, ⟨fun _ => ⟨rfl, rfl⟩, fun _ => rfl⟩, fun _ _ _ => rfl⟩
  case recompute => exact served_aside.safe.recompute hs
  case holdExpires => exact served_aside.safe.holdExpires hs
  case declareStall =>
    have hstalled : LineServed (setSticky .wheelStall (moveWheel .stalled s)) :=
      hs.congr rfl rfl (.inl rfl) rfl rfl id rfl rfl rfl id
    unfold Machine.declareStall
    dsimp only
    split
    · exact hstalled.forcedChange
    · exact hstalled
  case outcome => exact hs.setOutcome _ _
  case decisionTimer h => exact hs.congr rfl rfl (.inl rfl) rfl rfl id rfl h.symm rfl id
  case stageRequests =>
    exact served_aside.holdTest (served_aside.driveDampers _ (hs.congr rfl rfl (.inl rfl) rfl rfl id rfl rfl rfl id))
  case cancelPending => exact hs.cancelPending
  case startPending k h =>
    have hservice : s.startUp.lifecycle.inService = true := hs.timers.1 ▸ h
    obtain ⟨htimer, hannounce, -⟩ := hs.timers
    refine lineServed_beginFrame ⟨htimer, hannounce, fun _ => hservice⟩ ⟨fun h' => ?_, hs.allowed.2⟩
    exact absurd (hservice.symm.trans h') (by decide)
  case allocate => exact served_aside.safe.allocate _ _ hs
  case forcedChange => exact hs.forcedChange
  case accept | insert | coast | lose | free => exact served_aside.safe.reported.tableMove _ _ _ hs
  case stagger hp _ => exact hs.congr rfl rfl (.inl rfl) rfl rfl id rfl rfl rfl hp
  case slotExpires =>
    exact hs.congr (by simp) (by simp) (by simp) (by simp) (by simp) (by simp)
      (by simp) (by simp) (by simp) (by simp [Machine.slotExpires, idleStagger])
  case phaseEnds p _ h =>
    have hdrive (q : PolarityTest) (byp oa : Nat) {u : State} (hu : LineServed u) : LineServed (drivePhase q byp oa u) :=
      hu.congr (by simp) (by simp) (by simp) (by simp) (by simp) (by simp) (by simp) (by simp) (by simp) (by simp)
    unfold Machine.phaseEnds
    dsimp only
    split
    · exact hdrive _ _ _ hs
    · exact hdrive _ _ _ (hs.setOutcome _ _)
    · exact hdrive _ _ _ hs
    · have hset := hs.setOutcome .outdoor (polarityOf p.outdoorA (s.reading .oaFb))
      have hcommission : (setOutcome .outdoor (polarityOf p.outdoorA (s.reading .oaFb)) s).startUp.lifecycle = .commission := by
        simpa using h
      refine hset.lifecycle (fun _ => ?_) (fun _ => ?_) (.inr (.inr hcommission)) (by simp) (by simp) (by simp) (by simp)
        (by simp) (by simp) (serviceTimers_congr hset.timers ?_ (by simp) (by simp) (by simp))
      all_goals simp [h, Lifecycle.inService, Lifecycle.answers]
  case listenEnds h =>
    refine served_aside.safe.activateFan (served_aside.driveValve _ (served_aside.driveDampers _ ?_))
    exact hs.lifecycle nofun nofun (.inr (.inl h)) rfl rfl rfl rfl rfl rfl ⟨rfl, rfl, fun _ => rfl⟩
  case enterActive h =>
    refine served_aside.safe.allocateBoth (hs.lifecycle nofun nofun (.inl (by rw [h]; rfl)) rfl rfl rfl rfl rfl rfl ?_)
    exact serviceTimers_congr hs.timers (by rw [h]; rfl) rfl rfl id
  case enterIsolated h =>
    have hservice : s.startUp.lifecycle.inService = true := by rcases h with h | h <;> rw [h] <;> rfl
    have hfan : LineServed (fanFollows (setSticky .isolated (setLifecycle .isolated
        { s with bus := { s.bus with lastHeard := none } }))) := by
      refine served_aside.safe.fanFollows (hs.lifecycle nofun nofun (.inl hservice) rfl rfl rfl rfl rfl rfl ?_)
      exact serviceTimers_congr hs.timers (by rw [hservice]; rfl) rfl rfl id
    unfold Machine.enterIsolated
    dsimp only
    split
    · exact served_aside.holdTest (served_aside.zeroGrants hfan)
    · exact hfan
  case rejoin h =>
    refine served_aside.safe.fanFollows (hs.lifecycle nofun nofun (.inl (by rw [h]; rfl)) rfl rfl rfl rfl rfl rfl ?_)
    exact serviceTimers_congr hs.timers (by rw [h]; rfl) rfl rfl id
  case judgeClash =>
    have hclash (n : Timer) : LineServed { s with bus := { s.bus with clashTimer := n, clash := true } } :=
      hs.congr rfl rfl (.inl rfl) rfl rfl id rfl rfl rfl id
    unfold Machine.judgeClash
    dsimp only
    split
    · exact hclash _
    · exact served_aside.zeroGrants (served_aside.sticky _ _ (served_aside.reconciler _ _ (hclash _)))
  case clashEnds =>
    unfold Machine.clashEnds
    dsimp only
    refine served_aside.safe.allocateBoth ?_
    split <;> exact hs.congr rfl rfl (.inl rfl) rfl rfl id rfl rfl rfl id
  case stuck => exact served_aside.safe.fanFollows (.of_busy hs.timers hs.allowed (.inr rfl))
  case lineIdles =>
    refine lineServed_beginFrame ?_ ?_
    · exact serviceTimers_congr hs.timers (by simp) (by simp) (by simp) (by simp)
    · simpa [slotsAllowed] using hs.allowed
  case receiver hr => exact .of_busy hs.timers hs.allowed (.inl hr)
  case loses => exact .of_busy hs.timers hs.allowed (.inl nofun)
  case endTransmission r remnant x hr _ =>
    obtain ⟨hannounce, hintent, hreplies⟩ := slots_endTransmission r remnant x s
    obtain ⟨-, -, hreceiver⟩ := onAir_endTransmission r remnant x s
    refine .of_busy (serviceTimers_congr hs.timers (by simp) (by simp) (by simp) (by simp)) ?_ (.inl (by rw [hreceiver]; exact hr))
    obtain ⟨hout, hanswers⟩ := hs.allowed
    refine ⟨fun h => ?_, fun h => ?_⟩
    · obtain ⟨ha, hi⟩ := hout (by simpa using h)
      exact ⟨hannounce.elim (fun h => h.trans ha) id, hintent.elim (fun h => h.trans hi) id⟩
    · have hr := hanswers (by simpa using h)
      rcases hreplies with h | h <;> simp [h, hr]
  case announceTimer h => exact hs.congr rfl rfl (.inl rfl) rfl rfl id rfl rfl h.symm id
  case placeAnnounce h =>
    have hservice : s.startUp.lifecycle.inService = true := hs.timers.2.1 ▸ h
    exact lineServed_beginFrame hs.timers
      ⟨fun h' => absurd (hservice.symm.trans h') (by decide), hs.allowed.2⟩
  case placeIntent h =>
    have hservice := hs.timers.2.2 h
    exact lineServed_beginFrame hs.timers
      ⟨fun h' => absurd (hservice.symm.trans h') (by decide), hs.allowed.2⟩
  case placeReply h _ =>
    exact lineServed_beginFrame hs.timers ⟨hs.allowed.1, fun h' => absurd (h.symm.trans h') (by decide)⟩
  all_goals
    exact hs.congr (by simp) (by simp) (by simp) (by simp) (by simp) (by simp) (by simp) (by simp) (by simp) (by simp)

/-- A contention that is over was on the line already. -/
theorem contentionOver_quiet (x : Transmitter) : contentionOver x = .quiet ↔ x = .quiet := by cases x <;> simp [contentionOver]

theorem slotsSound_tick (hs : slotsSound s) : slotsSound (tick s) := by
  obtain ⟨hreplies, honAir, hreceiver⟩ := hs
  have hquiet : (tick s).bus.transmitter = .quiet ↔ s.bus.transmitter = .quiet := contentionOver_quiet _
  exact ⟨hreplies, honAir.trans (not_congr hquiet).symm, fun h => hreceiver (mt hquiet.mpr h)⟩

/-- Settles O25, by the moves: what places a frame on an idle line begins it, and a state is left with its slots as its row of R172 has
them. -/
theorem transmitSlotsServeAnIdleLine : Obligations.TransmitSlotsServeAnIdleLine := by
  unfold Obligations.TransmitSlotsServeAnIdleLine
  refine ⟨fun s t => step_keeps (I := slotsSound) (fun _ _ => id) (fun _ => slotsSound_tick) fun _ _ _ => Move.keeps_slots,
    fun s t htimers hallowed hserved hstep => ?_⟩
  obtain ⟨-, hallowed', hserved'⟩ := step_keeps (I := LineServed)
    (fun _ _ hs => hs.congr rfl rfl (.inl rfl) rfl rfl id rfl rfl rfl id)
    (fun u hs => hs.congr rfl rfl (.inl rfl) rfl rfl (contentionOver_quiet _).mp rfl (by simp [tick, runDown])
      (by simp [tick, runDown]) id)
    (fun _ _ _ => Move.keeps_served) ⟨htimers, hallowed, hserved⟩ hstep
  exact ⟨hallowed', hserved'⟩

end Sys2Proof.Machine
end


-- ==== Sys2Proof/Proofs/Reference.lean ====
section
/-! SUPPORT. The outdoor reference: its candidates, its recomputation, and count, hold timer and enthalpy of its state (section 4.3, R68). -/

namespace Sys2Proof.Machine

variable {c : Instr} {s t : State}

/-! ### Candidates and recomputation -/

theorem peerCandidates_congr (hcfg : t.startUp.settings = s.startUp.settings) (htable : t.table.records = s.table.records) :
    peerCandidates t = peerCandidates s := by
  unfold peerCandidates State.cfg
  rw [hcfg, htable]

theorem candidates_congr (hcfg : t.startUp.settings = s.startUp.settings) (hwindows : t.scanner.windows = s.scanner.windows)
    (hown : t.reconciler.own = s.reconciler.own) (htable : t.table.records = s.table.records) : candidates t = candidates s := by
  unfold candidates ownCandidate State.reading
  rw [peerCandidates_congr hcfg htable, hwindows, hown]

/-- One own candidate at most, and one of each record at most (R60, R61). -/
theorem length_candidates_le (s : State) : (candidates s).length ≤ 1 + s.table.records.length := by
  have hown : (ownCandidate s).toList.length ≤ 1 := by cases ownCandidate s <;> simp
  have hpeers : (peerCandidates s).length ≤ s.table.records.length := List.length_filterMap_le _ _
  rw [candidates, List.length_append]
  omega

/-- A report recomputes the reference over the candidates that stand, or leaves it (R62, R90). -/
theorem reportChange_reconciler (order : ReportOrder) (p : Report) (s : State) : (reportChange order p s).reconciler =
    if p.reference = true then recomputed (mins s.cfg.holdLimit) (candidates s) s.reconciler else s.reconciler := by
  have hrecompute (u : State) : (reportRecompute p u).reconciler =
      if p.reference = true then recomputed (mins u.cfg.holdLimit) (candidates u) u.reconciler else u.reconciler := by
    unfold reportRecompute
    split <;> simp [recompute_reconciler]
  have hcandidates : candidates (reportAllocate p s) = candidates s :=
    candidates_congr (by simp) (by simp) (by simp) (by simp)
  cases order <;> cases hfan : p.fan <;> simp [reportChange, hfan, hrecompute, hcandidates, State.cfg]

@[simp] theorem lowerMedian_nil : lowerMedian [] = none := rfl

/-! ### The record of the reconciler -/

/-- Count, hold timer, enthalpy and runs as the state of the reference has them (section 4.3, R68). -/
def Reconciler.Sound (r : Reconciler) : Prop :=
  (match r.reference with
   | .fresh p => 1 ≤ r.count ∧ r.count ≤ 33 ∧ r.hold = none ∧ p.h = enthalpy p.t p.w
   | .held p => r.count = 0 ∧ r.hold.isSome = true ∧ p.h = enthalpy p.t p.w
   | .invalid => r.count = 0 ∧ r.hold = none) ∧
  r.disagreeRun ≤ 30 ∧ r.agreeRun ≤ 30

theorem referenceSound_iff (s : State) : referenceSound s ↔ s.reconciler.Sound := .rfl

theorem startReconciler_sound : startReconciler.Sound := ⟨⟨rfl, rfl⟩, by decide, by decide⟩

theorem Reconciler.Sound.recomputed {r : Reconciler} (hr : r.Sound) (holdMs : Nat) {cs : List (Int × Int)} (hcs : cs.length ≤ 33) :
    (recomputed holdMs cs r).Sound := by
  obtain ⟨hstate, hruns⟩ := hr
  unfold Machine.recomputed
  split
  · rename_i ht _
    have hne : cs ≠ [] := fun h => by rw [h] at ht; cases ht
    exact ⟨⟨List.length_pos_iff.mpr hne, hcs, rfl, rfl⟩, hruns⟩
  · rename_i hp _
    rw [hp] at hstate
    exact ⟨⟨rfl, rfl, hstate.2.2.2⟩, hruns⟩
  · rename_i hp _
    rw [hp] at hstate
    exact ⟨⟨rfl, hstate.2⟩, hruns⟩
  · rename_i hp _
    rw [hp] at hstate
    refine ⟨?_, hruns⟩
    dsimp only
    rw [hp]
    exact ⟨rfl, hstate.2⟩

theorem Reconciler.Sound.judged {r : Reconciler} (hr : r.Sound) (disagrees : Bool) : (judged disagrees r).Sound := by
  obtain ⟨hreference, hcount, hhold⟩ := judged_frame disagrees r
  obtain ⟨hstate, hdisagree, hagree⟩ := hr
  refine ⟨by rw [hreference, hcount, hhold]; exact hstate, ?_⟩
  unfold Machine.judged
  split
  · split
    · exact ⟨by simp, by simp⟩
    · exact ⟨by dsimp only; omega, by simp⟩
  · exact ⟨by simp, Nat.min_le_left _ _⟩
  · split
    · exact ⟨by simp, by simp⟩
    · exact ⟨by simp, by dsimp only; omega⟩
  · exact ⟨Nat.min_le_left _ _, by simp⟩

theorem Reconciler.Sound.judgeOwnSensor (hs : s.reconciler.Sound) : (judgeOwnSensor s).reconciler.Sound := by
  unfold Machine.judgeOwnSensor
  split
  · split
    · exact hs.judged _
    · exact hs
  · exact hs

/-- A table change leaves at most 33 candidates to recompute over. -/
theorem Reconciler.Sound.tableMove (hs : s.reconciler.Sound) (order : ReportOrder) (p : Report)
    (h : (reportChange order p t).table.records.length ≤ 32) (ht : t.reconciler = s.reconciler) :
    (reportChange order p t).reconciler.Sound := by
  rw [reportChange_reconciler, ht]
  split
  · refine hs.recomputed _ ((length_candidates_le t).trans ?_)
    simp only [reportChange_frame] at h
    omega
  · exact hs

/-- Every move keeps count, hold timer and enthalpy those of the state of the reference. -/
theorem Move.keeps_reference (h : Move c s t) (htable : tableSound s) (hs : s.reconciler.Sound) : t.reconciler.Sound := by
  obtain ⟨⟨hlength, -, -⟩, -⟩ := (tableSound_iff t).mp (h.keeps_table htable)
  cases h
  case coldStart =>
    unfold Machine.coldStart
    dsimp only
    split <;> exact startReconciler_sound
  case configEnds =>
    unfold Machine.configEnds
    dsimp only
    split <;> simpa [handConfiguration, startScanTimer] using startReconciler_sound
  case warmStart => simpa [Machine.warmStart, startScanTimer] using startReconciler_sound
  case judgeOwnSensor => exact hs.judgeOwnSensor
  case recompute =>
    rw [recompute_reconciler]
    have hle := length_candidates_le s
    have hlength' := htable.1
    exact hs.recomputed _ (by omega)
  case holdExpires =>
    simp only [Machine.holdExpires, reportReference_frame]
    exact ⟨⟨rfl, rfl⟩, hs.2⟩
  case accept | insert | coast | lose | free => exact hs.tableMove _ _ hlength rfl
  all_goals simpa using hs

/-- Settles O26, by the moves: what moves the reference, or its candidates, recomputes it. -/
theorem referenceStaysConsistent : Obligations.ReferenceStaysConsistent := by
  unfold Obligations.ReferenceStaysConsistent
  intro s t htable hs hstep
  refine And.right (step_keeps (I := fun u => tableSound u ∧ u.reconciler.Sound) (fun _ _ h => h) (fun u h => ?_)
    (fun _ _ _ hm h => ⟨hm.keeps_table h.1, hm.keeps_reference h.1 h.2⟩) ⟨htable, hs⟩ hstep)
  obtain ⟨htable', hstate, hruns⟩ := h
  refine ⟨tableSound_tick htable', ?_, hruns⟩
  revert hstate
  cases hr : u.reconciler.reference <;> simp [tick, runDown, hr]

end Sys2Proof.Machine
end


-- ==== Sys2Proof/Proofs/Ranges.lean ====
section
/-! SUPPORT. The ranges of parameters, samples and wheel speeds (R14, R28, R176, R177), and the loaded configuration (R175 to R178). -/

namespace Sys2Proof.Machine

variable {c : Instr} {s t : State}

/-! ### Clamps and bytes -/

theorem within_clampNat {lo hi : Nat} (v : Nat) (h : lo ≤ hi) : within lo hi (clampNat lo hi v) = true := by
  unfold within clampNat
  exact decide_eq_true (by omega)

theorem withinInt_clampInt {lo hi : Int} (v : Int) (h : lo ≤ hi) : withinInt lo hi (clampInt lo hi v) = true :=
  decide_eq_true (clampInt_mem v h)

theorem clampNat_zero (hi v : Nat) : clampNat 0 hi v = min hi v := by simp [clampNat]

theorem byteAt_lt (f : List Byte) (i : Nat) : byteAt f i < 256 := (f[i]?.getD 0).isLt

theorem halfAt_lt (f : List Byte) (i : Nat) : halfAt f i < 65536 := by
  have h := byteAt_lt f i
  have h' := byteAt_lt f (i + 1)
  unfold halfAt
  omega

theorem byteAt_eq_getElem {f : List Byte} {i : Nat} (h : i < f.length) : byteAt f i = f[i].toNat := by
  simp [byteAt, List.getElem?_eq_getElem h]

/-- Bytes of a record by their places. -/
theorem map_take_drop {α : Type} (g : Nat → α) {r : List Byte} {a n : Nat} (h : a + n ≤ r.length) :
    ((r.drop a).take n).map (fun b => g b.toNat) = (List.range n).map fun i => g (byteAt r (a + i)) := by
  refine List.ext_getElem (by simp; omega) fun i hi _ => ?_
  simp only [List.length_map, List.length_take, List.length_drop] at hi
  simp [byteAt_eq_getElem (f := r) (i := a + i) (by omega)]

/-! ### The loaded configuration (R176 to R178) -/

theorem clampPurge_inRange (n : Nat) : (within 0 0 (clampPurge n) || within 10 240 (clampPurge n)) = true := by
  unfold clampPurge
  split
  · rfl
  · rw [within_clampNat n (by decide), Bool.or_true]

/-- The parameters of 84 bytes lie in their ranges, by the clamps. -/
theorem settingsOf_inRange {r : List Byte} (h : r.length = 84) : (settingsOf r).inRange = true := by
  have hlength : within 1 10 (settingsOf r).scanList.length = true := by
    simp only [within, settingsOf, clampNat, decide_eq_true_eq, List.length_map, List.length_take, List.length_drop]
    omega
  have hchannels : (settingsOf r).scanList.all (within 0 9) = true := by
    simp only [settingsOf, List.all_map]
    exact List.all_eq_true.mpr fun b _ => within_clampNat b.toNat (by decide)
  have hmap : within 10 10 (settingsOf r).channelMap.length = true := by
    simp [within, settingsOf, h]
  have hhalf (i : Nat) : within 0 65535 (halfAt r i) = true := by
    have := halfAt_lt r i
    simp only [within, decide_eq_true_eq]
    omega
  have hhOff (v w : Int) : withinInt (clampInt (-4024) 13774 v + 100) 13874 (max (clampInt (-4024) 13774 v + 100)
      (clampInt (-4024) 13874 w)) = true := by
    have := clampInt_mem v (show (-4024 : Int) ≤ 13774 by decide)
    have := clampInt_mem w (show (-4024 : Int) ≤ 13874 by decide)
    simp only [withinInt, decide_eq_true_eq]
    omega
  unfold Settings.inRange
  rw [hlength, hchannels, hmap]
  simp only [settingsOf, hhalf, hhOff, clampPurge_inRange, within_clampNat, withinInt_clampInt, Nat.reduceLeDiff,
    Int.reduceLE, Int.reduceNeg, Bool.and_self]

theorem recordIntact_of_accepted {r : List Byte} (h : recordAccepted r = true) : recordIntact r = true := by
  simp only [recordAccepted, Bool.and_eq_true] at h
  exact h.1.1

theorem length_of_accepted {r : List Byte} (h : recordAccepted r = true) : r.length = 84 := by
  have := recordIntact_of_accepted h
  simp only [recordIntact, Bool.and_eq_true, decide_eq_true_eq] at this
  exact this.1.1

/-- Whatever the memory returns, every parameter is in its range (R177, R178). -/
theorem loadSettings_inRange (r : List Byte) : (loadSettings r).inRange = true := by
  unfold loadSettings
  split
  · exact settingsOf_inRange (length_of_accepted ‹_›)
  · decide

/-! ### Every step keeps the parameters in range -/

theorem coldStart_settings (hi lo : Ratio) (record : List Byte) (s : State) :
    (coldStart hi lo record s).cfg = loadSettings record := by
  unfold coldStart; dsimp only; split <;> rfl

theorem Move.keeps_inRange (h : Move c s t) (hs : s.cfg.inRange = true) : t.cfg.inRange = true := by
  by_cases hc : ∃ hi lo record, c = .coldStart hi lo record
  · cases h
    case coldStart => rw [coldStart_settings]; exact loadSettings_inRange _
    all_goals simpa [State.cfg] using hs
  · have := h.keeps_configuration (by push Not at hc; exact hc)
    rw [State.cfg, this.1]
    exact hs

/-! ### Samples in the span of their quantity (R28, R47) -/

/-- Samples and last accepted value of a window lie in a range. -/
def Window.InSpan (q : Quantity) (w : Window) : Prop :=
  (∀ v ∈ w.samples, (span q).1 ≤ v ∧ v ≤ (span q).2) ∧ ∀ v ∈ w.lastAccepted, (span q).1 ≤ v ∧ v ≤ (span q).2

theorem samplesInSpan_iff (s : State) : samplesInSpan s ↔ ∀ q, (s.scanner.windows.get q).InSpan q :=
  ⟨fun h q => h q (Quantity.mem_all q), fun h q _ => h q⟩

/-- An accepted code gives a value in the span of its quantity (R28). -/
theorem sampleOf_inSpan {q : Quantity} {code : Nat} {v : Int} (h : sampleOf q code = some v) :
    (span q).1 ≤ v ∧ v ≤ (span q).2 := by
  by_cases hcode : 328 ≤ code ∧ code ≤ 3768
  · rw [sampleOf_of_accepted q hcode.1 hcode.2] at h
    cases h
    have hspan := span_fst_lt_snd q
    have hmem := ramp_mem (c := (span q).2 - (span q).1) (d := 3276) (by omega) (by decide) (code - 410)
    omega
  · rw [sampleOf_of_rejected q (by omega)] at h
    cases h

theorem emptyWindow_inSpan (q : Quantity) (x : QuantityState) : (emptyWindow x).InSpan q := ⟨nofun, nofun⟩

theorem Window.InSpan.enter {q : Quantity} {w : Window} {v : Int} (hw : w.InSpan q) (hv : (span q).1 ≤ v ∧ v ≤ (span q).2) :
    (w.enter v).InSpan q := by
  refine ⟨fun x hx => ?_, hw.2⟩
  unfold Window.enter at hx
  dsimp only at hx
  split at hx <;> rcases List.mem_append.mp hx with hx | hx
  · exact hw.1 x hx
  · rw [List.mem_singleton.mp hx]; exact hv
  · exact hw.1 x (List.mem_of_mem_drop hx)
  · rw [List.mem_singleton.mp hx]; exact hv

theorem Window.InSpan.accept {q : Quantity} {w : Window} {v : Int} (hw : w.InSpan q) (hv : (span q).1 ≤ v ∧ v ≤ (span q).2) :
    (w.accept v).InSpan q := by
  have hentered : ({ w.enter v with lastAccepted := some v } : Window).InSpan q :=
    ⟨(hw.enter hv).1, fun x hx => by cases hx; exact hv⟩
  unfold Window.accept
  dsimp only
  split
  · exact hw
  · split <;> exact hentered
  · split <;> exact hentered
  · exact hentered

theorem Window.InSpan.reject {q : Quantity} {w : Window} (hw : w.InSpan q) : w.reject.InSpan q := by
  unfold Window.reject
  split
  · exact hw
  · exact emptyWindow_inSpan q _
  · exact emptyWindow_inSpan q _
  · rename_i v _ hlast
    split
    · exact emptyWindow_inSpan q _
    · exact hw.enter (hw.2 v hlast)
  · exact emptyWindow_inSpan q _

theorem Move.keeps_samples (h : Move c s t) (hs : ∀ q, (s.scanner.windows.get q).InSpan q) :
    ∀ q, (t.scanner.windows.get q).InSpan q :=
  h.keeps_windows (P := Window.InSpan) (fun _ q => emptyWindow_inSpan q _)
    (fun _ _ _ _ hv hw => hw.accept (sampleOf_inSpan hv)) (fun _ _ hw => hw.reject) hs

/-! ### Averages in the span -/

theorem sumInt_mem {lo hi : Int} {l : List Int} (h : ∀ v ∈ l, lo ≤ v ∧ v ≤ hi) :
    (l.length : Int) * lo ≤ sumInt l ∧ sumInt l ≤ l.length * hi := by
  induction l with
  | nil => simp [sumInt]
  | cons x xs ih =>
    obtain ⟨hx, hxs⟩ := List.forall_mem_cons.mp h
    obtain ⟨hlo, hhi⟩ := ih hxs
    simp only [sumInt, List.length_cons, Nat.cast_add, Nat.cast_one, add_mul, one_mul]
    omega

/-- A rounded quotient lies between whole bounds of the exact one. -/
theorem roundHalfAway_mem {n lo hi : Int} {d : Nat} (hd : 0 < d) (hlo : d * lo ≤ n) (hhi : n ≤ d * hi) :
    lo ≤ roundHalfAway n d ∧ roundHalfAway n d ≤ hi := by
  obtain ⟨hnear, -⟩ := roundHalfAway_nearest n hd
  have hd' : (0 : Int) < d := by exact_mod_cast hd
  constructor
  · by_contra hlt
    have : (d : Int) * (roundHalfAway n d + 1) ≤ d * lo := mul_le_mul_of_nonneg_left (by omega) hd'.le
    rw [mul_add, mul_one] at this
    omega
  · by_contra hlt
    have : (d : Int) * (hi + 1) ≤ d * roundHalfAway n d := mul_le_mul_of_nonneg_left (by omega) hd'.le
    rw [mul_add, mul_one] at this
    omega

/-- What the blocks read of a quantity lies in its span. -/
theorem reading_inSpan {q : Quantity} {v : Int} (hs : (s.scanner.windows.get q).InSpan q) (h : s.reading q = some v) :
    (span q).1 ≤ v ∧ v ≤ (span q).2 := by
  unfold State.reading Window.reading Window.average at h
  split at h
  · split at h
    · cases h
    · rename_i hne
      cases h
      have hpos : 0 < (s.scanner.windows.get q).samples.length := List.length_pos_iff.mpr (by simpa using hne)
      obtain ⟨hlo, hhi⟩ := sumInt_mem hs.1
      exact roundHalfAway_mem hpos hlo hhi
  · cases h

theorem demandHeat_le (hs : (s.scanner.windows.get .heatDem).InSpan .heatDem) : demandHeat s ≤ 1000 := by
  unfold demandHeat
  cases h : s.reading .heatDem with
  | none => simp
  | some v =>
    have := reading_inSpan hs h
    simp only [span] at this
    simp only [Option.getD_some]
    omega

/-! ### The wheel's speeds (R14 to R17) -/

/-- A speed between Smin and 1000. -/
def Settings.SpeedIn (c : Settings) (v : Nat) : Prop := c.smin ≤ v ∧ v ≤ 1000

theorem smin_le (h : s.cfg.inRange = true) : s.cfg.smin ≤ 500 := by
  simp only [Settings.inRange, Bool.and_eq_true, within, decide_eq_true_eq] at h
  omega

theorem sr_pos (h : s.cfg.inRange = true) : 100 ≤ s.cfg.sr := by
  simp only [Settings.inRange, Bool.and_eq_true, within, decide_eq_true_eq] at h
  omega

/-- The base speed lies between Smin and 1000 (R14). -/
theorem baseSpeedNow_in (hcfg : s.cfg.inRange = true) (hs : ∀ q, (s.scanner.windows.get q).InSpan q) :
    s.cfg.SpeedIn (baseSpeedNow s) := by
  have hsmin := smin_le hcfg
  obtain ⟨-, -, -, hheating, hcooling, -⟩ := valveAndSpeedTargetsKeepTheirBounds
  have hself : s.cfg.SpeedIn s.cfg.smin := ⟨le_refl _, by omega⟩
  unfold baseSpeedNow
  split
  · obtain ⟨hlo, hhi, -, -⟩ := hheating s.cfg.smin (demandHeat s) (by omega) (demandHeat_le (hs .heatDem))
    exact ⟨hlo, hhi⟩
  · rename_i a _ _
    obtain ⟨hlo, hhi, -⟩ := hcooling s.cfg.smin s.cfg.sr (a.ho - a.hr - s.cfg.mr) (by omega) (sr_pos hcfg)
    exact ⟨hlo, hhi⟩
  · exact hself
  · exact hself

/-- The frost rules keep the speed target between Smin and 1000 (R15 to R17). -/
theorem speedRules_in {cfg : Settings} (hsmin : cfg.smin ≤ 500) (exh outTemp : Option Int) (entered : Bool) {e : Engine}
    (hbase : cfg.SpeedIn e.baseSpeed) (htarget : cfg.SpeedIn e.speedTarget) :
    cfg.SpeedIn (speedRules cfg exh outTemp entered e).speedTarget := by
  have hstep (x : Int) (e : Engine) (hbase : cfg.SpeedIn e.baseSpeed) (htarget : cfg.SpeedIn e.speedTarget) :
      cfg.SpeedIn (frostStep cfg x e).speedTarget := by
    unfold Settings.SpeedIn at *
    unfold frostStep
    split_ifs <;> dsimp only <;> omega
  have hcap (o : Option Int) (e : Engine) (hbase : cfg.SpeedIn e.baseSpeed) : cfg.SpeedIn (frostCap o e).speedTarget := by
    unfold Settings.SpeedIn at *
    unfold frostCap
    split <;> dsimp only <;> omega
  have hentered : cfg.SpeedIn (if entered = true then { e with speedTarget := e.baseSpeed } else e).speedTarget ∧
      cfg.SpeedIn (if entered = true then { e with speedTarget := e.baseSpeed } else e).baseSpeed := by
    split
    · exact ⟨hbase, hbase⟩
    · exact ⟨htarget, hbase⟩
  unfold speedRules
  dsimp only
  split
  · exact hbase
  · exact hbase
  · exact hbase
  · split
    · exact hstep _ _ hentered.2 hentered.1
    · exact hcap _ _ hentered.2

theorem speedsInRange_setSpeed (entered : Bool) (hcfg : s.cfg.inRange = true) (hbase : s.cfg.SpeedIn s.engine.baseSpeed)
    (htarget : s.cfg.SpeedIn s.engine.speedTarget) : speedsInRange (setSpeed entered s) := by
  have hnext := speedRules_in (smin_le hcfg) (s.reading .exhT) (s.reconciler.reference.point.map OutdoorPoint.t) entered hbase htarget
  intro _
  simpa [State.cfg, setSpeed] using And.intro hbase.1 ⟨hbase.2, hnext⟩

/-- The speeds stay in range as long as they stay, with the configuration, after CONFIG. -/
theorem speedsInRange_congr (hs : speedsInRange s) (hlifecycle : t.startUp.lifecycle ≠ .config → s.startUp.lifecycle ≠ .config)
    (hcfg : t.startUp.settings = s.startUp.settings) (hbase : t.engine.baseSpeed = s.engine.baseSpeed)
    (htarget : t.engine.speedTarget = s.engine.speedTarget) : speedsInRange t := fun h => by
  unfold State.cfg
  rw [hcfg, hbase, htarget]
  exact hs (hlifecycle h)

theorem speedsInRange_startEngine (hcfg : s.cfg.inRange = true) (hengine : t.engine = startEngine s.cfg)
    (hsettings : t.startUp.settings = s.startUp.settings) : speedsInRange t := fun _ => by
  have hsmin := smin_le hcfg
  unfold State.cfg at *
  rw [hengine, hsettings]
  exact ⟨le_refl _, by simp only [startEngine]; omega, le_refl _, by simp only [startEngine]; omega⟩

theorem Move.keeps_speeds (h : Move c s t) (hcfg : s.cfg.inRange = true) (hsamples : ∀ q, (s.scanner.windows.get q).InSpan q)
    (hs : speedsInRange s) : speedsInRange t := by
  cases h
  case coldStart => exact fun h => absurd (lifecycle_coldStart _ _ _ _) h
  case configEnds => exact speedsInRange_startEngine hcfg (engine_configEnds s) (by simp)
  case warmStart => exact speedsInRange_startEngine hcfg (by simp [Machine.warmStart, startScanTimer]) (by simp)
  case stageSpeed =>
    intro hlifecycle
    obtain ⟨-, -, htarget⟩ := hs (by simpa using hlifecycle)
    exact speedsInRange_setSpeed _ (s := { s with engine := { s.engine with baseSpeed := baseSpeedNow s } }) hcfg
      (baseSpeedNow_in hcfg hsamples) htarget hlifecycle
  case slotExpires p _ =>
    unfold Machine.slotExpires completeChange
    dsimp only
    split
    · cases p.kind
      · intro hlifecycle
        obtain ⟨hlo, hhi, htarget⟩ := hs (by simpa using hlifecycle)
        refine speedsInRange_setSpeed true ?_ ?_ ?_ hlifecycle
        · simpa [State.cfg] using hcfg
        · simpa [State.cfg, Settings.SpeedIn] using And.intro hlo hhi
        · simpa [State.cfg, Settings.SpeedIn] using htarget
      · exact speedsInRange_congr hs (by simp) (by simp) (by simp) (by simp)
    · exact hs
  case phaseEnds h => exact speedsInRange_congr hs (fun _ => by simp [h]) (by simp) (by simp) (by simp)
  case listenEnds h => exact speedsInRange_congr hs (fun _ => by simp [h]) (by simp) (by simp) (by simp)
  case rejoin h => exact speedsInRange_congr hs (fun _ => by simp [h]) (by simp) (by simp) (by simp)
  case enterActive h => exact speedsInRange_congr hs (fun _ => by simp [h]) (by simp) (by simp) (by simp)
  case enterIsolated h =>
    exact speedsInRange_congr hs (fun _ => by rcases h with h | h <;> simp [h]) (by simp) (by simp) (by simp)
  all_goals exact speedsInRange_congr hs (by simp) (by simp) (by simp) (by simp)

/-- Settles O27, by the moves: parameters change at COLD_START alone, samples come from accepted codes, and speeds from the rules of
stage 8. -/
theorem parametersSamplesAndSpeedsStayInRange : Obligations.ParametersSamplesAndSpeedsStayInRange := by
  unfold Obligations.ParametersSamplesAndSpeedsStayInRange
  refine ⟨fun s t => step_keeps (I := fun u => u.cfg.inRange = true) (fun _ _ => id) (fun _ => id) fun _ _ _ => Move.keeps_inRange,
    fun s t hs hstep => ?_, fun s t hcfg hs hspeeds hstep => ?_⟩
  · rw [samplesInSpan_iff] at hs ⊢
    exact step_keeps (I := fun u => ∀ q, (u.scanner.windows.get q).InSpan q) (fun _ _ => id) (fun _ => id)
      (fun _ _ _ => Move.keeps_samples) hs hstep
  · rw [samplesInSpan_iff] at hs
    exact (step_keeps (I := fun u => u.cfg.inRange = true ∧ (∀ q, (u.scanner.windows.get q).InSpan q) ∧ speedsInRange u)
      (fun _ _ => id) (fun _ => id)
      (fun _ _ _ hm h => ⟨hm.keeps_inRange h.1, hm.keeps_samples h.2.1, hm.keeps_speeds h.1 h.2.1 h.2.2⟩)
      ⟨hcfg, hs, hspeeds⟩ hstep).2.2

/-! ### What a record gives (R175 to R178) -/

theorem pairwise_range_iff {R : Nat → Nat → Prop} (n : Nat) : (List.range n).Pairwise R ↔ ∀ j < n, ∀ i < j, R i j := by
  rw [List.pairwise_iff_getElem]
  simp only [List.length_range, List.getElem_range]
  exact ⟨fun h j hj i hij => h i j (by omega) hj hij, fun h i j _ hj hij => h j hj i hij⟩

/-- A list without repeats, by places (R178). -/
theorem noRepeats_iff (l : List Nat) : noRepeats l = true ↔ l.Pairwise (· ≠ ·) := by
  induction l with
  | nil => simp [noRepeats]
  | cons x xs ih =>
    simp only [noRepeats, Bool.and_eq_true, ih, List.pairwise_cons, Bool.not_eq_true', List.contains_eq_mem, decide_eq_false_iff_not]
    exact and_congr_left fun _ => ⟨fun h y hy hxy => h (hxy ▸ hy), fun h hx => h x hx rfl⟩

/-- Each quantity stands once at most, by places (R178). -/
theorem mapSound_iff (m : List (Option Quantity)) : mapSound m = true ↔ m.Pairwise fun x y => x = y → x = none := by
  have hcount : mapSound m = true ↔ (m.filterMap id).Nodup := by
    simp only [mapSound, List.all_eq_true, decide_eq_true_eq, List.nodup_iff_count_le_one, List.count_filterMap]
    exact ⟨fun h q => h q (Quantity.mem_all q), fun h q _ => h q⟩
  rw [hcount, List.Nodup, List.pairwise_filterMap]
  refine List.Pairwise.iff fun x y => ?_
  cases x <;> cases y <;> simp

/-- Two bytes that name a quantity name the same one only when they are the same (R176). -/
theorem ofIndex_inj {n m : Nat} (hn : n < 9) (h : Quantity.ofIndex n = Quantity.ofIndex m) : n = m := by
  have hnodup : Quantity.all.Nodup := by decide
  exact (List.getElem?_inj hn hnodup).mp h

theorem ofIndex_eq_none_iff (n : Nat) : Quantity.ofIndex n = none ↔ 9 ≤ n := by
  simp [Quantity.ofIndex, Quantity.all]

theorem signed16_eq {n : Nat} (h : n < 65536) : signed16 n = (BitVec.ofNat 16 n).toInt := by
  rw [BitVec.toInt_eq_toNat_cond, BitVec.toNat_ofNat, Nat.mod_eq_of_lt (by omega)]
  unfold signed16
  split_ifs <;> omega

theorem signed8_eq {n : Nat} (h : n < 256) : signed8 n = (BitVec.ofNat 8 n).toInt := by
  rw [BitVec.toInt_eq_toNat_cond, BitVec.toNat_ofNat, Nat.mod_eq_of_lt (by omega)]
  unfold signed8
  split_ifs <;> omega

theorem bitAt_eq_testBit (n i : Nat) : bitAt n i = n.testBit i := Nat.testBit_eq_decide_div_mod_eq.symm

/-- The scan list and the channel map of 84 bytes, by places. -/
theorem scanList_settingsOf {r : List Byte} (h : r.length = 84) : (settingsOf r).scanList =
    (List.range (max 1 (min 10 (byteAt r 12)))).map fun i => min 9 (byteAt r (13 + i)) := by
  have := map_take_drop (clampNat 0 9) (r := r) (a := 13) (n := clampNat 1 10 (byteAt r 12)) (by unfold clampNat; omega)
  simp only [clampNat_zero] at this
  simp only [settingsOf, clampNat_zero]
  exact this

theorem channelMap_settingsOf {r : List Byte} (h : r.length = 84) : (settingsOf r).channelMap =
    (List.range 10).map fun i => Quantity.ofIndex (byteAt r (23 + i)) :=
  map_take_drop Quantity.ofIndex (by omega)

/-- The three checks on a record (R176, R178). -/
theorem recordAccepted_iff (r : List Byte) : recordAccepted r = true ↔
    r.length = 84 ∧ (crc16 (r.take 82)).toNat = halfAt r 82 ∧ byteAt r 0 = 0xA1 ∧
    (∀ j < max 1 (min 10 (byteAt r 12)), ∀ i < j, min 9 (byteAt r (13 + i)) ≠ min 9 (byteAt r (13 + j))) ∧
    (∀ j < 10, ∀ i < j, byteAt r (23 + i) = byteAt r (23 + j) → 9 ≤ byteAt r (23 + i)) := by
  unfold recordAccepted recordIntact
  simp only [Bool.and_eq_true, decide_eq_true_eq, and_assoc]
  refine and_congr_right fun hlength => and_congr_right fun _ => and_congr_right fun _ => ?_
  rw [mapSound_iff, noRepeats_iff, channelMap_settingsOf hlength, scanList_settingsOf hlength, List.pairwise_map, List.pairwise_map,
    pairwise_range_iff, pairwise_range_iff, and_comm]
  refine and_congr_right fun _ => forall₄_congr fun j _ i _ => ?_
  rw [ofIndex_eq_none_iff]
  refine ⟨fun h heq => h (by rw [heq]), fun h heq => ?_⟩
  by_contra hlt
  exact hlt (h (ofIndex_inj (by omega) heq))

theorem strapBand_le (r : Ratio) : strapBand r ≤ 7 := Nat.min_le_left _ _

theorem strapAddress_le (hi lo : Ratio) : strapAddress hi lo ≤ 63 := by
  have h := strapBand_le hi
  have h' := strapBand_le lo
  unfold strapAddress
  omega

/-- The band of a ratio is the eighth it lies in, a ratio of 1 in band 7 (R175). -/
theorem strapBand_eq {r : Ratio} {n : Nat} (hr : r.wf = true) (hn : n ≤ 7) (hlo : n * r.den ≤ 8 * r.num)
    (hhi : 8 * r.num < (n + 1) * r.den ∨ (n = 7 ∧ r.num = r.den)) : strapBand r = n := by
  simp only [Ratio.wf, decide_eq_true_eq] at hr
  have hle : n ≤ 8 * r.num / r.den := (Nat.le_div_iff_mul_le hr.1).mpr hlo
  unfold strapBand
  rcases hhi with hlt | ⟨rfl, -⟩
  · have : 8 * r.num / r.den < n + 1 := (Nat.div_lt_iff_lt_mul hr.1).mpr hlt
    omega
  · omega

/-- Settles O15: the clamps bound each parameter, and the record's lists are read by places. -/
theorem loadedConfigurationIsInRange : Obligations.LoadedConfigurationIsInRange := by
  unfold Obligations.LoadedConfigurationIsInRange
  refine ⟨loadSettings_inRange, recordAccepted_iff, fun r h => ⟨_, rfl, ?_⟩, fun r h => ?_,
    fun hi lo => ⟨rfl, strapAddress_le hi lo⟩, fun _ _ => strapBand_eq⟩
  · have hscan := scanList_settingsOf (length_of_accepted h)
    have hmap := channelMap_settingsOf (length_of_accepted h)
    have hload : loadSettings r =
        { settingsOf r with scanList := (settingsOf r).scanList, channelMap := (settingsOf r).channelMap } := if_pos h
    rw [hload, hscan, hmap]
    simp only [settingsOf, clampNat_zero, signed16_eq (halfAt_lt r _), signed8_eq (byteAt_lt r _), bitAt_eq_testBit]
    rfl
  · rw [loadSettings, if_neg (by simp [h])]
    rfl

end Sys2Proof.Machine
end


-- ==== Sys2Proof/Proofs/Arithmetic.lean ====
section
/-! SUPPORT. The median (R31), the economizer quantities (R33, R34), the fairness of a division (R104, R105) and contention (R163). -/

namespace Sys2Proof.Machine

/-! ### The median (R31) -/

theorem insertAsc_eq (x : Int) (l : List Int) : insertAsc x l = l.orderedInsert (· ≤ ·) x := by
  induction l with
  | nil => rfl
  | cons y ys ih => simp [insertAsc, ih]

theorem sortAsc_eq (l : List Int) : sortAsc l = l.insertionSort (· ≤ ·) := by
  induction l with
  | nil => rfl
  | cons x xs ih => simp [sortAsc, ih, insertAsc_eq]

theorem perm_sortAsc (l : List Int) : (sortAsc l).Perm l := by
  rw [sortAsc_eq]
  exact List.perm_insertionSort _ l

theorem pairwise_sortAsc (l : List Int) : (sortAsc l).Pairwise (· ≤ ·) := by
  rw [sortAsc_eq]
  exact List.pairwise_insertionSort _ l

/-- In an ascending list at most k values lie below the one at place k, and more than k at or below it. -/
theorem countP_getElem_of_pairwise {l : List Int} (h : l.Pairwise (· ≤ ·)) {k : Nat} (hk : k < l.length) :
    l.countP (fun x => decide (x < l[k])) ≤ k ∧ k < l.countP (fun x => decide (x ≤ l[k])) := by
  have hget := List.pairwise_iff_getElem.mp h
  constructor
  · have hdrop : (l.drop k).countP (fun x => decide (x < l[k])) = 0 := by
      rw [List.countP_eq_zero]
      intro x hx
      obtain ⟨i, hi, rfl⟩ := List.getElem_of_mem hx
      rw [List.getElem_drop]
      rcases Nat.eq_zero_or_pos i with rfl | hpos
      · simp
      · have := hget k (k + i) hk (by simpa using Nat.add_lt_of_lt_sub' (by simpa using hi)) (by omega)
        simpa using this
    have htake := List.countP_le_length (p := fun x => decide (x < l[k])) (l := l.take k)
    rw [List.length_take] at htake
    have hsplit : l.countP (fun x => decide (x < l[k])) =
        (l.take k).countP (fun x => decide (x < l[k])) + (l.drop k).countP (fun x => decide (x < l[k])) := by
      rw [← List.countP_append, List.take_append_drop]
    omega
  · have htake : (l.take (k + 1)).countP (fun x => decide (x ≤ l[k])) = k + 1 := by
      rw [List.countP_eq_length.mpr, List.length_take]
      · omega
      · intro x hx
        obtain ⟨i, hi, rfl⟩ := List.getElem_of_mem hx
        rw [List.length_take] at hi
        rw [List.getElem_take]
        rcases Nat.lt_or_eq_of_le (by omega : i ≤ k) with hlt | rfl
        · simpa using hget i k (by omega) hk hlt
        · simp
    have hsub := (List.take_sublist (k + 1) l).countP_le (p := fun x => decide (x ≤ l[k]))
    omega

/-- Settles O7: the median stands in the middle of the list in ascending order. -/
theorem medianIsTheLowerMiddleValue : Obligations.MedianIsTheLowerMiddleValue := by
  unfold Obligations.MedianIsTheLowerMiddleValue
  refine ⟨fun l hne => ?_, fun x => by simp [lowerMedian, sortAsc, insertAsc], fun x y => ?_, rfl⟩
  · have hperm := perm_sortAsc l
    have hpos := List.length_pos_iff.mpr hne
    have hk : (l.length - 1) / 2 < (sortAsc l).length := by rw [hperm.length_eq]; omega
    obtain ⟨hbelow, habove⟩ := countP_getElem_of_pairwise (pairwise_sortAsc l) hk
    refine ⟨(sortAsc l)[(l.length - 1) / 2], List.getElem?_eq_getElem hk, hperm.mem_iff.mp (List.getElem_mem hk), ?_, ?_⟩
    · rw [← hperm.countP_eq]; exact hbelow
    · rw [← hperm.countP_eq]; exact habove
  · simp only [lowerMedian, sortAsc, insertAsc]
    split <;> simp <;> omega

/-! ### The economizer quantities (R33, R34) -/

/-- A part of at most 1000 thousandths is at most the whole. -/
theorem thousandths_le {a n : Nat} (h : n ≤ 1000) : a * n / 1000 ≤ a :=
  Nat.div_le_of_le_mul (by rw [mul_comm 1000]; exact Nat.mul_le_mul_left a h)

/-- Settles O9: each quantity is a floor, and floors keep the order of what they round. -/
theorem economizerQuantitiesKeepTheirBounds : Obligations.EconomizerQuantitiesKeepTheirBounds := by
  unfold Obligations.EconomizerQuantitiesKeepTheirBounds
  intro fmin qs dc hfmin hfmin' hqs hqs' hdc
  have hpart : (1000 - fmin) * dc / 1000 ≤ 1000 - fmin := thousandths_le hdc
  have hcap : 250 ≤ (1000 - fmin) * qs / 1000 ∧ (1000 - fmin) * qs / 1000 ≤ 57000 := by
    have hlow : 500 * 500 ≤ (1000 - fmin) * qs := Nat.mul_le_mul (by omega) hqs
    have hhigh : (1000 - fmin) * qs ≤ 950 * 60000 := Nat.mul_le_mul (by omega) hqs'
    omega
  have hwanted : fmin + (1000 - fmin) * dc / 1000 - fmin = (1000 - fmin) * dc / 1000 := Nat.add_sub_cancel_left ..
  have hgranted (g g' : Nat) (h : g ≤ g') : g * 1000 / qs ≤ g' * 1000 / qs :=
    Nat.div_le_div_right (Nat.mul_le_mul_right 1000 h)
  refine ⟨_, _, _, rfl, rfl, rfl, rfl, rfl, rfl, by omega, by omega, ?_, hcap.1, hcap.2, fun h => ?_, fun h => ?_, fun g => ?_,
    fun g g' h => ?_⟩
  · rw [hwanted]
    exact Nat.div_le_div_right (Nat.mul_le_mul_right qs hpart)
  · subst h; simp
  · subst h
    rw [hwanted, Nat.mul_div_cancel _ (by decide)]
    exact ⟨by omega, rfl⟩
  · unfold grantedFraction
    refine ⟨rfl, le_min (by omega) (Nat.le_add_right _ _), min_le_left _ _, fun h => ?_⟩
    subst h
    rw [Nat.zero_mul, Nat.zero_div]
    omega
  · have := hgranted g g' h
    unfold grantedFraction
    omega

/-! ### Fairness of a division (R104, R105) -/

/-- A pass spends at most r for each member it satisfies, over n parts. -/
theorem passSpends_mul_le_satisfied (n r : Nat) (ps : List Participant) :
    passSpends n r ps * n ≤ r * ps.countP (passSatisfies n r) := by
  induction ps with
  | nil => simp [passSpends]
  | cons p ps ih =>
    simp only [passSpends, List.countP_cons, add_mul, mul_add]
    rw [add_comm (r * _)]
    refine add_le_add ?_ ih
    split
    · next hsat => simpa using (passSatisfies_iff.mp hsat).2
    · simp

/-- Every member that has its share has its request, within what remains for each that has none. -/
def Levelled (r : Nat) (ps : List Participant) : Prop :=
  ∀ p ∈ ps, ∀ x, p.share = some x → x = p.request ∧ x * unsatisfied ps ≤ r

theorem Levelled.start {ps : List Participant} (r : Nat) (h : ∀ p ∈ ps, p.share = none) : Levelled r ps :=
  fun p hp x hx => by simp [h p hp] at hx

/-- What remains for each unsatisfied member does not fall by a pass. -/
theorem Levelled.pass {r : Nat} {ps : List Participant} (h : Levelled r ps) (hpos : 0 < unsatisfied ps) :
    Levelled (r - passSpends (unsatisfied ps) r ps) (passGives (unsatisfied ps) r ps) := by
  have hfewer := unsatisfied_passGives (unsatisfied ps) r ps
  have hspends := passSpends_mul_le_satisfied (unsatisfied ps) r ps
  have hle := passSpends_le (r := r) hpos
  have hlevel (x : Nat) (hx : x * unsatisfied ps ≤ r) :
      x * unsatisfied (passGives (unsatisfied ps) r ps) ≤ r - passSpends (unsatisfied ps) r ps := by
    generalize unsatisfied (passGives (unsatisfied ps) r ps) = n' at *
    generalize passSpends (unsatisfied ps) r ps = spent at *
    generalize ps.countP (passSatisfies (unsatisfied ps) r) = m at *
    generalize unsatisfied ps = n at *
    subst hfewer
    refine Nat.le_of_mul_le_mul_right (c := n' + m) ?_ hpos
    have hx' := Nat.mul_le_mul_right n' hx
    obtain ⟨d, rfl⟩ := Nat.exists_eq_add_of_le hle
    rw [Nat.add_sub_cancel_left]
    nlinarith
  intro p hp x hx
  obtain ⟨p₀, hmem, rfl⟩ := List.mem_map.mp hp
  split at hx
  · next hsat =>
    rw [if_pos hsat]
    cases hx
    exact ⟨rfl, hlevel _ (passSatisfies_iff.mp hsat).2⟩
  · next hsat =>
    rw [if_neg hsat]
    obtain ⟨hrequest, hx'⟩ := h p₀ hmem x hx
    exact ⟨hrequest, hlevel x hx'⟩

/-- The passes end in an equal division in which every member that has its share has no more than the others get (R105). -/
theorem Levelled.passes_eq {budget fuel r : Nat} {ps : List Participant} (h : Levelled r ps) (hdiv : Dividing budget r ps)
    (hfuel : unsatisfied ps ≤ fuel) : ∃ r' ps', 0 < unsatisfied ps' ∧ Levelled r' ps' ∧
      passes fuel r ps = splitEqually (r' / unsatisfied ps') (r' % unsatisfied ps') ps' := by
  induction fuel, r, ps using passes.induct with
  | case1 r ps => exact absurd hdiv.unsatisfied_pos (by omega)
  | case2 fuel r ps hany ih =>
    have hsatisfied : 0 < ps.countP (passSatisfies (unsatisfied ps) r) := by
      simpa [List.countP_pos_iff] using hany
    have hfewer := unsatisfied_passGives (unsatisfied ps) r ps
    rw [passes, if_pos hany]
    exact ih (h.pass hdiv.unsatisfied_pos) hdiv.pass (by omega)
  | case3 fuel r ps hany => exact ⟨r, ps, hdiv.unsatisfied_pos, h, by rw [passes, if_neg hany]⟩

/-- An entry after the equal division had its share before it, or has q, or one unit more while k lasts. -/
theorem share_splitEqually {q k : Nat} {ps : List Participant} {p : Participant} (h : p ∈ splitEqually q k ps) :
    (p ∈ ps ∧ p.share.isSome = true) ∨ ∃ x, p.share = some x ∧ q ≤ x ∧ x ≤ q + min k 1 := by
  induction k, ps using splitEqually.induct with
  | case1 => cases h
  | case2 k p₀ ps hopen ih =>
    rw [splitEqually, if_pos hopen] at h
    rcases List.mem_cons.mp h with rfl | h
    · exact .inr ⟨_, rfl, by omega, le_refl _⟩
    · refine (ih h).imp (And.imp_left (List.mem_cons_of_mem _)) fun ⟨x, hx, hq, hk⟩ => ⟨x, hx, hq, by omega⟩
  | case3 k p₀ ps hset ih =>
    rw [splitEqually, if_neg hset] at h
    rcases List.mem_cons.mp h with rfl | h
    · exact .inl ⟨List.mem_cons_self, by simpa [Option.isSome_iff_ne_none] using hset⟩
    · exact (ih h).imp (And.imp_left (List.mem_cons_of_mem _)) id

/-- The equal division gives the odd units to the first in the list (R105). -/
theorem pairwise_splitEqually {q k : Nat} {ps : List Participant} (h : ∀ p ∈ ps, ∀ x, p.share = some x → x = p.request) :
    (splitEqually q k ps).Pairwise fun p p' =>
      p.share.getD 0 < p.request → p'.share.getD 0 < p'.request → p'.share.getD 0 ≤ p.share.getD 0 := by
  have hfull {p : Participant} {ps : List Participant} (h : ∀ p ∈ ps, ∀ x, p.share = some x → x = p.request) (hp : p ∈ ps)
      (hsome : p.share.isSome = true) : ¬ p.share.getD 0 < p.request := by
    obtain ⟨x, hx⟩ := Option.isSome_iff_exists.mp hsome
    rw [hx, ← h p hp x hx]
    exact lt_irrefl _
  induction k, ps using splitEqually.induct with
  | case1 => exact .nil
  | case2 k p ps hopen ih =>
    obtain ⟨-, hps⟩ := List.forall_mem_cons.mp h
    rw [splitEqually, if_pos hopen]
    refine List.pairwise_cons.mpr ⟨fun p' hp' _ hshort => ?_, ih hps⟩
    rcases share_splitEqually hp' with ⟨hmem, hsome⟩ | ⟨x, hx, -, hk⟩
    · exact absurd hshort (hfull hps hmem hsome)
    · rw [hx, Option.getD_some, Option.getD_some]
      omega
  | case3 k p ps hset ih =>
    obtain ⟨-, hps⟩ := List.forall_mem_cons.mp h
    rw [splitEqually, if_neg hset]
    refine List.pairwise_cons.mpr ⟨fun p' _ hshort => ?_, ih hps⟩
    exact absurd hshort (hfull h List.mem_cons_self (by simpa [Option.isSome_iff_ne_none] using hset))

/-- Settles O12: the passes level the shares, and what is left is divided equally. -/
theorem divisionIsMaxMinFair : Obligations.DivisionIsMaxMinFair := by
  unfold Obligations.DivisionIsMaxMinFair
  intro budget ps hnone
  by_cases hfit : sumRequests ps ≤ budget
  · obtain ⟨hfull, -⟩ := divide_within hfit
    have hnotShort (p : Participant) (hp : p ∈ divide budget ps) : ¬ p.share.getD 0 < p.request := by simp [hfull p hp]
    exact ⟨fun _ _ q hq hshort => absurd hshort (hnotShort q hq),
      List.pairwise_iff_getElem.mpr fun i _ hi _ _ hshort => absurd hshort (hnotShort _ (List.getElem_mem hi))⟩
  · obtain ⟨r, ps', hpos, hlevel, heq⟩ := (Levelled.start budget hnone).passes_eq (Dividing.start hnone (by omega))
      (unsatisfied_le_length ps)
    have hdivide : divide budget ps = splitEqually (r / unsatisfied ps') (r % unsatisfied ps') ps' := by
      rw [divide, if_neg hfit, heq]
    rw [hdivide]
    refine ⟨fun p hp q hq hshort => ?_, pairwise_splitEqually fun p hp x hx => (hlevel p hp x hx).1⟩
    have hp' : p.share.getD 0 ≤ r / unsatisfied ps' + 1 := by
      rcases share_splitEqually hp with ⟨hmem, hsome⟩ | ⟨x, hx, -, hk⟩
      · obtain ⟨x, hx⟩ := Option.isSome_iff_exists.mp hsome
        have := (Nat.le_div_iff_mul_le hpos).mpr (hlevel p hmem x hx).2
        rw [hx, Option.getD_some]
        omega
      · rw [hx, Option.getD_some]
        omega
    have hq' : r / unsatisfied ps' ≤ q.share.getD 0 := by
      rcases share_splitEqually hq with ⟨hmem, hsome⟩ | ⟨x, hx, hle, -⟩
      · obtain ⟨x, hx⟩ := Option.isSome_iff_exists.mp hsome
        rw [hx, (hlevel q hmem x hx).1] at hshort
        exact absurd hshort (lt_irrefl _)
      · rw [hx, Option.getD_some]
        exact hle
    omega

/-! ### Contention (R163, R164) -/

/-- Of two bytes the first bit in which they differ says which is the lower. -/
theorem losesBits_iff (own rival n : Nat) : losesBits own rival n = true ↔ rival % 2 ^ n < own % 2 ^ n := by
  induction n with
  | zero => simp [losesBits, Nat.mod_one]
  | succ n ih =>
    have hown := Nat.mod_lt own (Nat.two_pow_pos n)
    have hrival := Nat.mod_lt rival (Nat.two_pow_pos n)
    have hobit := Nat.mod_two_eq_zero_or_one (own / 2 ^ n)
    have hrbit := Nat.mod_two_eq_zero_or_one (rival / 2 ^ n)
    rw [losesBits, Nat.mod_pow_succ, Nat.mod_pow_succ, Nat.testBit_eq_decide_div_mod_eq, Nat.testBit_eq_decide_div_mod_eq]
    rcases hobit with ho | ho <;> rcases hrbit with hr | hr <;> simp [ho, hr, ih] <;> omega

theorem losesContention_iff (own rival : Byte) : losesContention own rival = true ↔ rival.toNat < own.toNat := by
  rw [losesContention, losesBits_iff, Nat.mod_eq_of_lt rival.isLt, Nat.mod_eq_of_lt own.isLt]

theorem contentionByte_toNat (k : FrameKind) {a : Nat} (ha : a < 64) : (contentionByte k a).toNat = k.frameClass * 64 + a := by
  rw [contentionByte, byteOf, BitVec.toNat_ofNat]
  cases k <;> simp only [FrameKind.frameClass] <;> omega

/-- Settles O14: contention compares the bytes bit by bit, the highest first. -/
theorem contentionIsLostToALowerByte : Obligations.ContentionIsLostToALowerByte := by
  unfold Obligations.ContentionIsLostToALowerByte
  refine ⟨losesContention_iff, fun k k' a a' ha ha' => ?_, fun rival x s hcontending hx hlower => ?_,
    fun rival x s hx hnot => ?_, fun rival s hne => ?_⟩
  · rw [losesContention_iff, contentionByte_toNat k ha, contentionByte_toNat k' ha']
    omega
  · have hloses := (losesContention_iff ((x.frame[0]?).getD 0) rival).mpr hlower
    change execContentionLost rival s = _
    simp only [execContentionLost, hcontending, hx, hloses, if_true]
    rfl
  · have hkeeps : ¬ losesContention ((x.frame[0]?).getD 0) rival = true := by
      rw [losesContention_iff]
      omega
    change execContentionLost rival s = _
    unfold execContentionLost
    split
    · rename_i y _ hy
      obtain rfl : x = y := Option.some.inj (hx.symm.trans hy)
      rw [if_neg hkeeps]
    · rfl
  · change execContentionLost rival s = _
    unfold execContentionLost
    split
    · contradiction
    · rfl

end Sys2Proof.Machine
end


-- ==== Sys2Proof/Proofs/Frames.lean ====
section
/-! SUPPORT. Frames as they are built and read back, under the CRC of the bus (R156 to R158). -/

namespace Sys2Proof.Machine

/-! ### Bytes and fields -/

@[simp] theorem byteAt_zero (b : Byte) (f : List Byte) : byteAt (b :: f) 0 = b.toNat := rfl

@[simp] theorem byteAt_succ (b : Byte) (f : List Byte) (i : Nat) : byteAt (b :: f) (i + 1) = byteAt f i := rfl

theorem byteOf_toNat (n : Nat) : (byteOf n).toNat = n % 256 := BitVec.toNat_ofNat n 8

/-- The two bytes of a field give the field back. -/
theorem halfAt_halfOf {n : Nat} (h : n < 65536) (f : List Byte) : halfAt (halfOf n ++ f) 0 = n := by
  simp only [halfAt, halfOf, List.cons_append, List.nil_append, byteAt_zero, byteAt_succ, byteOf_toNat]
  omega

/-! ### The CRC (R157) -/

theorem crc16_snoc (bytes : List Byte) (b : Byte) : crc16 (bytes ++ [b]) = crcByte (crc16 bytes) b := by
  rw [crc16, crcFrom_append]
  rfl

theorem crcByte_eq_foldl (r : Half) (b : Byte) : crcByte r b =
    (List.range 8).foldl (fun (r : Half) (_ : Nat) => if r.msb = true then (r <<< 1) ^^^ 0x1021#16 else r <<< 1)
      (r ^^^ (b.setWidth 16 <<< 8)) := rfl

/-! ### A frame that is built -/

/-- The header a frame is built with (R156). -/
def header (k : FrameKind) (source : Nat) (body : List Byte) : List Byte :=
  [contentionByte k source, byteOf (k.code * 16), byteOf body.length]

/-- A frame that is built, by its parts. -/
theorem buildFrame_eq (k : FrameKind) (source : Nat) (body : List Byte) : buildFrame k source body =
    header k source body ++ (halfOf (crc16 (header k source body ++ [0, 0] ++ body)).toNat ++ body) := by
  simp [buildFrame, header]

theorem length_buildFrame (k : FrameKind) (source : Nat) (body : List Byte) :
    (buildFrame k source body).length = 5 + body.length := by
  simp [buildFrame_eq, header, halfOf]
  omega

theorem buildFrame_drop (k : FrameKind) (source : Nat) (body : List Byte) : (buildFrame k source body).drop 5 = body := rfl

theorem buildFrame_byte (k : FrameKind) (source : Nat) (body : List Byte) (i : Nat) :
    byteAt (buildFrame k source body) (5 + i) = byteAt body i := by
  rw [byteAt, byteAt, ← List.getElem?_drop, buildFrame_drop]

theorem frameCrc_buildFrame (k : FrameKind) (source : Nat) (body : List Byte) :
    (frameCrc (buildFrame k source body)).toNat = halfAt (buildFrame k source body) 3 := by
  have hcrc : frameCrc (buildFrame k source body) = crc16 (header k source body ++ [0, 0] ++ body) := rfl
  rw [hcrc]
  exact (halfAt_halfOf (crc16 (header k source body ++ [0, 0] ++ body)).isLt body).symm

/-- A body length of a kind is at most 48 (R156). -/
theorem lengthFits_le {k : FrameKind} {n : Nat} (h : lengthFits k n = true) : n ≤ 48 := by
  cases k <;> simp [lengthFits] at h <;> omega

/-- The kind code is read back. -/
theorem frameKind_buildFrame (k : FrameKind) (source : Nat) (body : List Byte) :
    frameKind (buildFrame k source body) = some k := by
  have hcode : frameKindCode (buildFrame k source body) = k.code := by
    change (byteOf (k.code * 16)).toNat / 16 = k.code
    rw [byteOf_toNat]
    cases k <;> rfl
  rw [frameKind, hcode]
  cases k <;> rfl

theorem frameSource_buildFrame (k : FrameKind) {source : Nat} (h : source < 64) (body : List Byte) :
    frameSource (buildFrame k source body) = source := by
  change (contentionByte k source).toNat % 64 = source
  rw [contentionByte_toNat k h]
  omega

/-- A frame built with a body that fits its kind is whole. -/
theorem frameWhole_buildFrame {k : FrameKind} {source : Nat} {body : List Byte} (h : lengthFits k body.length = true) :
    frameWhole (buildFrame k source body) = true := by
  have hle := lengthFits_le h
  have hbyte : (((buildFrame k source body)[2]?).getD 0).toNat = body.length := by
    change (byteOf body.length).toNat = body.length
    rw [byteOf_toNat]
    omega
  rw [frameWhole, hbyte, length_buildFrame]
  exact decide_eq_true ⟨hle, rfl⟩

/-- A frame built with a body that fits its kind is valid (R158). -/
theorem frameValid_buildFrame {k : FrameKind} {source : Nat} {body : List Byte} (hsource : source < 64)
    (h : lengthFits k body.length = true) (hannounce : k = .announce → byteAt body 1 / 64 ≠ 3)
    (hintent : k = .intent → byteAt body 0 = 1 ∨ byteAt body 0 = 2) : frameValid (buildFrame k source body) = true := by
  have hle := lengthFits_le h
  have hclass : byteAt (buildFrame k source body) 0 / 64 = k.frameClass := by
    change (contentionByte k source).toNat / 64 = k.frameClass
    rw [contentionByte_toNat k hsource]
    omega
  have hlength : byteAt (buildFrame k source body) 2 = body.length := by
    change (byteOf body.length).toNat = body.length
    rw [byteOf_toNat]
    omega
  have hfits : bodyFits k (buildFrame k source body) = true := by
    have hbyte := buildFrame_byte k source body
    cases k
    · simpa [bodyFits, hbyte 0] using hintent rfl
    · simpa [bodyFits, hbyte 1] using hannounce rfl
    · rfl
    · rfl
  rw [frameValid, frameKind_buildFrame]
  simp [frameCrc_buildFrame, hclass, hlength, h, hfits]

/-! ### An announcement (R156) -/

theorem length_announceBody (a : Announcement) : (announceBody a).length = 24 := by
  cases h : a.observation <;> simp [announceBody, h, observationBytes, signedHalfOf, halfOf, claimBytes]

/-- The state byte's three fields. -/
theorem stateByte_fields (a : Announcement) : stateByte a / 64 = a.flag.code ∧ stateByte a / 8 % 4 = a.mode.code ∧
    (stateByte a / 32 % 2 = 1 ↔ a.observation.isSome = true) ∧ stateByte a < 192 := by
  have hflag : a.flag.code ≤ 2 := by cases a.flag <;> decide
  have hmode : a.mode.code ≤ 3 := by cases a.mode <;> decide
  unfold stateByte
  split <;> refine ⟨by omega, by omega, ?_, by omega⟩ <;> simp [*] <;> omega

theorem flagOf_code (f : PeerFlag) : flagOf f.code = f := by cases f <;> rfl

theorem modeOf_code (m : Mode) : modeOf m.code = m := by cases m <;> rfl

theorem signed16_ofInt {i : Int} (h : -32768 ≤ i ∧ i ≤ 32767) : signed16 (BitVec.ofInt 16 i).toNat = i := by
  rw [signed16_eq (BitVec.ofInt 16 i).isLt, BitVec.ofNat_toNat, BitVec.setWidth_eq, BitVec.toInt_ofInt]
  exact Int.bmod_eq_of_le (by omega) (by omega)

theorem byteOf_of_lt {n : Nat} (h : n ≤ 255) : (byteOf n).toNat = n := by
  rw [byteOf_toNat]
  omega

/-- The two bytes of a field, as they are read. -/
theorem bytes_of_lt {n : Nat} (h : n ≤ 65535) : (byteOf (n / 256)).toNat * 256 + (byteOf n).toNat = n := by
  rw [byteOf_toNat, byteOf_toNat]
  omega

/-- The four bytes of an observation, which give it back when it is present. -/
theorem observationBytes_read {o : Option Observation}
    (h : ∀ x ∈ o, (-32768 ≤ x.t ∧ x.t ≤ 32767) ∧ x.w ≤ 65535) : ∃ b0 b1 b2 b3 : Byte, observationBytes o = [b0, b1, b2, b3] ∧
      (o.isSome = true → o = some { t := signed16 (b0.toNat * 256 + b1.toNat), w := b2.toNat * 256 + b3.toNat }) := by
  cases o with
  | none => exact ⟨0, 0, 0, 0, rfl, nofun⟩
  | some x =>
    obtain ⟨ht, hw⟩ := h x rfl
    have hread := bytes_of_lt (n := (BitVec.ofInt 16 x.t).toNat) (Nat.le_of_lt_succ (BitVec.ofInt 16 x.t).isLt)
    refine ⟨_, _, _, _, rfl, fun _ => ?_⟩
    rw [hread, bytes_of_lt hw, signed16_ofInt ht]

/-- An announcement whose values fit their fields is read back as it was built. -/
theorem announcementOf_buildFrame {a : Announcement} (source : Nat) (h : a.fits = true) :
    announcementOf (buildFrame .announce source (announceBody a)) = a := by
  obtain ⟨hflag, hmode, hpresent, hstate⟩ := stateByte_fields a
  simp only [Announcement.fits, Claim.fits, within, withinInt, Bool.and_eq_true, decide_eq_true_eq] at h
  obtain ⟨⟨⟨⟨⟨⟨⟨⟨-, hsequence⟩, -, hriser⟩, -, hplant⟩, -, hheight⟩, -, hperiod⟩, hobservation⟩,
    ⟨⟨-, hrelief⟩, -, hreliefCap⟩, -, hreliefUse⟩, ⟨⟨-, hwfc⟩, -, hwfcCap⟩, -, hwfcUse⟩ := h
  obtain ⟨b0, b1, b2, b3, hbytes, hread⟩ := observationBytes_read (o := a.observation) fun x hx => by
    rw [Option.mem_def.mp hx] at hobservation
    simpa [and_assoc] using hobservation
  have hbody : announceBody a =
      [byteOf a.sequence, byteOf (stateByte a), byteOf a.riserGroup, byteOf a.plantGroup] ++ halfOf a.height ++ [byteOf a.period] ++
        [b0, b1, b2, b3] ++ claimBytes a.relief ++ claimBytes a.wfc ++ [a.faults] := by rw [announceBody, hbytes]
  have hfields : announcementOf (buildFrame .announce source (announceBody a)) =
      { sequence := (byteOf a.sequence).toNat
        flag := flagOf ((byteOf (stateByte a)).toNat / 64)
        mode := modeOf ((byteOf (stateByte a)).toNat / 8 % 4)
        riserGroup := (byteOf a.riserGroup).toNat
        plantGroup := (byteOf a.plantGroup).toNat
        height := (byteOf (a.height / 256)).toNat * 256 + (byteOf a.height).toNat
        period := (byteOf a.period).toNat
        observation :=
          if (byteOf (stateByte a)).toNat / 32 % 2 = 1 then
            some { t := signed16 (b0.toNat * 256 + b1.toNat), w := b2.toNat * 256 + b3.toNat }
          else none
        relief :=
          { request := (byteOf (a.relief.request / 256)).toNat * 256 + (byteOf a.relief.request).toNat
            cap := (byteOf (a.relief.cap / 256)).toNat * 256 + (byteOf a.relief.cap).toNat
            inUse := (byteOf (a.relief.inUse / 256)).toNat * 256 + (byteOf a.relief.inUse).toNat }
        wfc :=
          { request := (byteOf (a.wfc.request / 256)).toNat * 256 + (byteOf a.wfc.request).toNat
            cap := (byteOf (a.wfc.cap / 256)).toNat * 256 + (byteOf a.wfc.cap).toNat
            inUse := (byteOf (a.wfc.inUse / 256)).toNat * 256 + (byteOf a.wfc.inUse).toNat }
        faults := a.faults } := by rw [hbody]; rfl
  have hobserved : (if stateByte a / 32 % 2 = 1 then
      some ({ t := signed16 (b0.toNat * 256 + b1.toNat), w := b2.toNat * 256 + b3.toNat } : Observation) else none) =
      a.observation := by
    split
    · exact (hread (hpresent.mp ‹_›)).symm
    · rename_i hnot
      rw [hpresent] at hnot
      exact (Option.not_isSome_iff_eq_none.mp hnot).symm
  rw [hfields, byteOf_of_lt hsequence, byteOf_of_lt (n := stateByte a) (by omega), byteOf_of_lt hriser, byteOf_of_lt hplant,
    byteOf_of_lt hperiod, bytes_of_lt hheight, bytes_of_lt hrelief, bytes_of_lt hreliefCap, bytes_of_lt hreliefUse,
    bytes_of_lt hwfc, bytes_of_lt hwfcCap, bytes_of_lt hwfcUse, hflag, hmode, flagOf_code, modeOf_code, hobserved]

/-- The last test of R158 is passed by every ANNOUNCE that is built. -/
theorem announceBody_flag (a : Announcement) : byteAt (announceBody a) 1 / 64 ≠ 3 := by
  obtain ⟨-, -, -, hstate⟩ := stateByte_fields a
  change (byteOf (stateByte a)).toNat / 64 ≠ 3
  rw [byteOf_of_lt (by omega)]
  omega

theorem frameValid_announce (a : Announcement) {source : Nat} (h : source < 64) :
    frameValid (buildFrame .announce source (announceBody a)) = true :=
  frameValid_buildFrame h (by simp [lengthFits, length_announceBody]) (fun _ => announceBody_flag a) nofun

/-- Settles O13: a frame is read at the places it is written to. -/
theorem builtFramesAreValidAndReadBack : Obligations.BuiltFramesAreValidAndReadBack := by
  unfold Obligations.BuiltFramesAreValidAndReadBack
  refine ⟨rfl, fun bytes b => (crc16_snoc bytes b).trans (crcByte_eq_foldl _ b), by decide +kernel,
    fun k source body hsource hlength hannounce hintent => ?_, fun a source hsource hfits => ?_⟩
  · exact ⟨frameWhole_buildFrame hlength, frameValid_buildFrame hsource hlength hannounce hintent, frameKind_buildFrame k source body,
      frameSource_buildFrame k hsource body, buildFrame_drop k source body⟩
  · exact ⟨length_announceBody a, frameValid_announce a hsource, announcementOf_buildFrame source hfits⟩

end Sys2Proof.Machine
end


-- ==== Sys2Proof/Proofs/Effects.lean ====
section
/-! SUPPORT. What the shared operations do to a damper, to ALARM, to the fan's suspension and to a share, said once for the statements on commands. -/

namespace Sys2Proof.Machine

variable {s t : State}

/-! ### Dampers (R145) -/

/-- A damper at its command is not driven. -/
theorem setCommand_self {d : Damper} {v : Nat} (h : (s.output.damper d).command = v) : setCommand d v s = s := by
  unfold setCommand
  rw [if_pos h]

/-- A damper that is driven starts its settle timer. -/
theorem setCommand_moves {d : Damper} {v : Nat} (h : (s.output.damper d).command ≠ v) : setCommand d v s =
    { s with output :=
        s.output.setDamper d { s.output.damper d with command := v, settle := some (secs s.cfg.strokeTime) } } := by
  unfold setCommand
  rw [if_neg h]

/-! ### ALARM (R190) -/

/-- A fault present after CONFIG has ALARM on. -/
theorem alarm_of_fault (h : alarmFollows s) (hl : s.startUp.lifecycle ≠ .config) (hfault : faultsPresent s ≠ noFaults) :
    s.responder.alarm = true := by
  rw [h, alarmDue]
  simp [hl, hfault]

theorem faultsPresent_of_reference (h : s.reconciler.reference = .invalid) (hl : s.startUp.lifecycle ≠ .config) :
    faultsPresent s ≠ noFaults := fun hnone => by
  have : (faultsPresent s).reference = false := by rw [hnone]; rfl
  simp [faultsPresent, referenceFault, h, hl] at this

theorem faultsPresent_of_isolated (h : s.startUp.lifecycle = .isolated) : faultsPresent s ≠ noFaults := fun hnone => by
  have : (faultsPresent s).isolated = false := by rw [hnone]; rfl
  simp [faultsPresent, h] at this

theorem faultsPresent_of_stalled (h : s.output.wheel = .stalled) : faultsPresent s ≠ noFaults := fun hnone => by
  have : (faultsPresent s).wheelStall = false := by rw [hnone]; rfl
  simp [faultsPresent, h] at this

theorem faultsPresent_of_clash (h : s.bus.clash = true) : faultsPresent s ≠ noFaults := fun hnone => by
  have : (faultsPresent s).addressClash = false := by rw [hnone]; rfl
  simp [faultsPresent, h] at this

theorem faultsPresent_of_stuck (h : s.bus.stuck = true) : faultsPresent s ≠ noFaults := fun hnone => by
  have : (faultsPresent s).busStuck = false := by rw [hnone]; rfl
  simp [faultsPresent, h] at this

theorem faultsPresent_of_failed {q : Quantity} (h : (s.scanner.windows.get q).state = .failed) : faultsPresent s ≠ noFaults :=
  fun hnone => by
    have : (faultsPresent s).sensor = false := by rw [hnone]; rfl
    simp only [faultsPresent, Windows.anyFailed, List.any_eq_false, decide_eq_true_eq] at this
    exact this q (Quantity.mem_all q) h

/-! ### The fan's suspension (R130) -/

/-- An evaluation leaves the suspension. -/
@[simp] theorem evaluateFan_suspended (s : State) : (evaluateFan s).fan.suspended = s.fan.suspended := by
  unfold evaluateFan
  split
  · exact fanNext_suspended _ _ _
  · rfl

@[simp] theorem reduceGrant_suspended (b : Budget) (s : State) : (reduceGrant b s).fan.suspended = s.fan.suspended := by
  unfold reduceGrant
  dsimp only
  split
  · cases b <;> simp [handOnGrant]
  · rfl

@[simp] theorem allocate_suspended (b : Budget) (s : State) : (allocate b s).fan.suspended = s.fan.suspended := by
  simp [allocate]

@[simp] theorem zeroGrants_suspended (s : State) : (zeroGrants s).fan.suspended = s.fan.suspended := by
  simp [zeroGrants, zeroGrant, allocateBoth]

theorem resumeFan_suspended (s : State) : (resumeFan s).fan.suspended = false := by simp [resumeFan]

/-- The suspension of an active fan control is what is due. -/
theorem fanFollows_suspended (h : fanActive s = true) : (fanFollows s).fan.suspended = suspensionDue s := by
  unfold fanFollows
  rw [if_pos h]
  cases hdue : suspensionDue s <;> cases hs : s.fan.suspended <;> simp [suspendFan, resumeFan_suspended, hs]

theorem activateFan_suspended (h : fanActive s = true) : (activateFan s).fan.suspended = suspensionDue s := by
  unfold activateFan
  rw [if_pos h]
  cases hdue : suspensionDue s <;> simp [suspendFan, resumeFan_suspended]

/-- A fan control that is not active is left alone. -/
theorem activateFan_of_not_active (h : fanActive s = false) : activateFan s = s := by simp [activateFan, h]

/-! ### Shares without a request (R97, R99, R110) -/

/-- An address without an entry has no share. -/
theorem shareOf_eq_zero {a : Nat} {ps : List Participant} (h : ∀ p ∈ ps, p.address ≠ a) : shareOf a ps = 0 := by
  induction ps with
  | nil => rfl
  | cons p ps ih =>
    obtain ⟨hp, hps⟩ := List.forall_mem_cons.mp h
    rw [shareOf, if_neg hp, ih hps]

end Sys2Proof.Machine
end


-- ==== Sys2Proof/Proofs/StartUp.lean ====
section
/-! SUPPORT. A step and the passing of a millisecond, the state at reset, and the commands of start-up control: COLD_START, CONFIG_END,
LISTEN_TIMER_EXPIRY and LAST_HEARD_TIMER_EXPIRY (spec/00, spec/10; R169, R170, R174 to R180). -/

namespace Sys2Proof.Machine

variable {s t : State}

/-! ### A step (log 3) -/

/-- The off-delay timer's clock, by what stops it (R130, R131). -/
theorem fanClock_eq (s : State) :
    fanClock s =
      if s.cfg.fanOwner = true ∧ s.startUp.lifecycle.inService = true ∧ s.fan.suspended = false then
        s.fan.offDelay.map (· - 1)
      else s.fan.offDelay := by
  unfold fanClock fanActive
  cases s.cfg.fanOwner <;> cases s.startUp.lifecycle.inService <;> cases s.fan.suspended <;> rfl

theorem contentionOver_eq (x : Transmitter) : contentionOver x = if x = .contending then .sending else x := by
  cases x <;> rfl

/-- Settles O1: both branches of `step`, and the clock field by field. -/
theorem stepRunsTheFrontCommand : Obligations.StepRunsTheFrontCommand := by
  unfold Obligations.StepRunsTheFrontCommand
  constructor
  · intro c cs s h
    simp [step, h]
  · intro s h
    have hstep : step s = .next (tick s) := by simp [step, h]
    exact ⟨tick s, hstep, rfl, rfl, rfl, rfl, rfl, rfl, rfl,
      congrArg (fun d => ({ s.fan with offDelay := d } : Fan)) (fanClock_eq s), rfl,
      congrArg (fun x => ({ s.bus with
        transmitter := x, announceTimer := runDown s.bus.announceTimer, lastHeard := runDown s.bus.lastHeard,
        clashTimer := runDown s.bus.clashTimer } : Bus)) (contentionOver_eq s.bus.transmitter),
      rfl, rfl, rfl, rfl, h⟩

/-! ### Reset (R150, R174) -/

theorem windowsSound_reset : windowsSound State.reset :=
  fun q _ => (windows_startScanner defaultSettings q).symm ▸ startWindow_sound defaultSettings q

theorem samplesInSpan_reset : samplesInSpan State.reset :=
  (samplesInSpan_iff _).mpr fun q => by
    have hwindow : State.reset.scanner.windows.get q = startWindow defaultSettings q := windows_startScanner defaultSettings q
    rw [hwindow]
    exact emptyWindow_inSpan q _

theorem stationHeld_reset : StationHeld State.reset :=
  AtRest.held ⟨⟨rfl, rfl, rfl⟩, ⟨rfl, rfl, rfl⟩, rfl, rfl, rfl, rfl, rfl⟩ rfl nofun (fun _ => ⟨rfl, rfl⟩) ⟨nofun, nofun⟩ nofun

/-- Settles O16: the start values of the blocks, each by the lemma that its invariant holds there. -/
theorem resetHasEveryInvariant : Obligations.ResetHasEveryInvariant := by
  obtain ⟨hwheel, hsafe, htimers⟩ := (stationHeld_iff _).mp stationHeld_reset
  exact ⟨rfl, by decide, windowsSound_reset, samplesInSpan_reset, by decide, by decide,
    grantsSound_startAllocator defaultSettings rfl, nofun,
    (allocationsCurrent_iff _).mpr fun _ => currentFor_start (cfg := defaultSettings) rfl rfl nofun,
    fun h => absurd rfl h, fun h => absurd rfl h, nofun, hwheel, hsafe, htimers, (fanSound_iff _).mpr (fanHeld_startFan rfl rfl),
    slotsSound_quiet (Nat.zero_le _) rfl rfl, ⟨fun _ => ⟨rfl, rfl⟩, fun _ => rfl⟩, nofun, ⟨⟨rfl, rfl⟩, by decide, by decide⟩, by decide, fun h => absurd rfl h⟩

/-! ### COLD_START (R174 to R178) -/

/-- Settles O28: the start values, and the one sticky flag of a record that is not accepted. -/
theorem coldStartTakesStartValues : Obligations.ColdStartTakesStartValues := by
  unfold Obligations.ColdStartTakesStartValues
  intro hi lo record s
  refine ⟨coldStart hi lo record s, rfl, ?_⟩
  unfold coldStart
  dsimp only
  cases haccepted : recordAccepted record <;>
    exact ⟨rfl, rfl, rfl, rfl, rfl, rfl, rfl, rfl, rfl, rfl, rfl, rfl, rfl, rfl, rfl, rfl⟩

/-! ### CONFIG_END (R142, R179) -/

/-- ALARM is on after CONFIG while the reference is INVALID (R59, R190). -/
theorem alarm_setLifecycle {l : Lifecycle} (h : s.reconciler.reference = .invalid) (hl : l ≠ .config) :
    (setLifecycle l s).responder.alarm = true := by
  have hfollows : alarmFollows (setLifecycle l s) := rfl
  exact alarm_of_fault hfollows hl (faultsPresent_of_reference h hl)

/-- The first phase drives the bypass damper from 1000 to 0, and leaves the outdoor damper at Fmin (R142, R145). -/
theorem drivePhase_first (p : PolarityTest) (h : s.output = startOutput s.cfg.fmin) :
    drivePhase p 0 s.cfg.fmin s = { s with output := { startOutput s.cfg.fmin with
      bypass := { startDamper 0 with settle := some (secs s.cfg.strokeTime) }
      test := some p } } := by
  unfold drivePhase
  rw [setCommand_moves (d := .bypass) (by simp [h, Output.damper, startOutput, startDamper]), setCommand_self]
  · simp [h, Output.setDamper, Output.damper, startOutput, startDamper]
  · simp [h, Output.setDamper, Output.damper, startOutput, startDamper]

/-- Settles O29: the hand-over, with the ALARM of SERVICE and of the INVALID reference, and the first phase of the polarity test. -/
theorem configEndHandsOverTheConfiguration : Obligations.ConfigEndHandsOverTheConfiguration := by
  unfold Obligations.ConfigEndHandsOverTheConfiguration
  constructor
  · intro s htimer hconfig
    have hexec : exec .configEnd s = .next (configEnds s) := by
      change execConfigEnd s = _
      simp [execConfigEnd, htimer, hconfig]
    refine ⟨configEnds s, hexec, ?_⟩
    unfold configEnds
    dsimp only
    split
    case isTrue haddress =>
      have halarm := alarm_setLifecycle (s := handConfiguration s) (l := .service) rfl nofun
      exact ⟨by simp [haddress, setLifecycle, refreshAlarm, handConfiguration, startScanTimer], rfl, rfl, rfl, rfl, rfl, rfl, rfl, rfl,
        fun _ => rfl, fun h => absurd haddress h, rfl,
        congrArg (fun a => ({ s.responder with alarm := a } : Responder)) halarm, rfl, rfl, rfl⟩
    case isFalse haddress =>
      have halarm := alarm_setLifecycle (s := handConfiguration s) (l := .commission) rfl nofun
      have hdrive := drivePhase_first (s := setLifecycle .commission (handConfiguration s)) (firstPhase s) rfl
      change drivePhase (firstPhase s) 0 s.cfg.fmin _ = _ at hdrive
      rw [hdrive]
      exact ⟨by simp [setLifecycle, refreshAlarm, handConfiguration, startScanTimer], rfl, rfl, rfl, rfl, rfl, rfl, rfl, rfl,
        fun h => absurd h haddress, fun _ => rfl, rfl,
        congrArg (fun a => ({ s.responder with alarm := a } : Responder)) halarm, rfl, rfl, rfl⟩
  · intro s h
    change execConfigEnd s = _
    rcases h with h | h <;> simp [execConfigEnd, h]

/-! ### LISTEN_TIMER_EXPIRY (R180) -/

/-- The state in which LISTEN has ended and the fan control is not yet active. -/
def joinedState (s : State) : State :=
  setLifecycle .joining
    { s with
      startUp := { s.startUp with listenTimer := none, ownCount := 0 }
      engine := { s.engine with decisionTimer := some (secs s.cfg.decisionPeriod) }
      bus := { s.bus with announceTimer := some (s.startUp.address * 50) } }

/-- The same with the outputs of service. -/
def joinedOutputs (s : State) : State :=
  driveValve (driveDampers { joinedState s with output := { s.output with idle := idleStart (joinedState s) } })

theorem listenEnds_eq (s : State) : listenEnds s = activateFan (joinedOutputs s) := rfl

@[simp] theorem joinedOutputs_frame (s : State) :
    (joinedOutputs s).startUp = { s.startUp with lifecycle := .joining, listenTimer := none, ownCount := 0 } ∧
    (joinedOutputs s).fan = s.fan ∧ (joinedOutputs s).bus = { s.bus with announceTimer := some (s.startUp.address * 50) } ∧
    (joinedOutputs s).allocator = s.allocator ∧ (joinedOutputs s).table = s.table := by
  simp [joinedOutputs, joinedState, setLifecycle, refreshAlarm]

theorem fanActive_joinedOutputs (s : State) : fanActive (joinedOutputs s) = s.cfg.fanOwner := by
  simp [fanActive, State.cfg, Lifecycle.inService]

theorem suspensionDue_joinedOutputs (s : State) : suspensionDue (joinedOutputs s) = s.bus.stuck := by simp [suspensionDue]

/-- The outputs with which a station leaves LISTEN (R133 to R137). -/
theorem joinedOutputs_output (s : State) :
    (joinedOutputs s).output.idle = (if s.cfg.purgeInterval = 0 then none else some 0) ∧
    (joinedOutputs s).output.bypass.command = bypassCommand s ∧ (joinedOutputs s).output.outdoor.command = outdoorCommand s ∧
    (joinedOutputs s).output.wfcPos = valveCommand s.cfg.lc (s.grant .wfc) := by
  obtain ⟨hbypass, houtdoor⟩ := driveDampers_commands
    { joinedState s with output := { s.output with idle := idleStart (joinedState s) } } rfl
  refine ⟨?_, ?_, ?_, ?_⟩
  · simp [joinedOutputs, idleStart, joinedState, State.cfg, setLifecycle, refreshAlarm, Lifecycle.inService]
  · simp only [joinedOutputs, driveValve_frame]
    exact hbypass
  · simp only [joinedOutputs, driveValve_frame]
    exact houtdoor
  · simp [joinedOutputs, joinedState, driveValve, State.cfg, State.grant, setLifecycle, refreshAlarm, Lifecycle.inService]

theorem exec_listenTimerExpiry_running (htimer : s.startUp.listenTimer.isSome = true) (hl : s.startUp.lifecycle = .listen) :
    exec .listenTimerExpiry s = .next (listenEnds s) := by
  change execListenTimerExpiry s = _
  simp [execListenTimerExpiry, htimer, hl]

theorem exec_listenTimerExpiry_idle (h : s.startUp.listenTimer = none ∨ s.startUp.lifecycle ≠ .listen) :
    exec .listenTimerExpiry s = .next s := by
  change execListenTimerExpiry s = _
  rcases h with h | h <;> simp [execListenTimerExpiry, h]

/-- The fan of an owner as LISTEN ends: suspended while BUS_STUCK stands, else following its condition (R130, R131). -/
theorem listenEnds_fan (howner : s.cfg.fanOwner = true) :
    (listenEnds s).fan.suspended = s.bus.stuck ∧
    (s.bus.stuck = true → (listenEnds s).fan.state = s.fan.state) ∧
    (s.bus.stuck = false → ((listenEnds s).fan.state = .on ↔ fanCondition s = true)) := by
  have hactive : fanActive (joinedOutputs s) = true := by rw [fanActive_joinedOutputs, howner]
  have hdue := suspensionDue_joinedOutputs s
  have hsuspended := activateFan_suspended hactive
  rw [hdue] at hsuspended
  rw [listenEnds_eq]
  refine ⟨hsuspended, fun hstuck => ?_, fun hstuck => ?_⟩
  · simp [activateFan, hactive, hdue, hstuck, suspendFan]
  · have hresumes : activateFan (joinedOutputs s) = resumeFan (joinedOutputs s) := by simp [activateFan, hactive, hdue, hstuck]
    have hheld := fanHeld_resumeFan hactive (hdue.trans hstuck)
    have hactive' : fanActive (resumeFan (joinedOutputs s)) = true := by simpa [fanActive, State.cfg] using hactive
    rw [hresumes, hheld.follows trivial hactive' (resumeFan_suspended _)]
    exact Bool.eq_iff_iff.mp (fanCondition_congr (by simp) (by simp))

/-! ### LAST_HEARD_TIMER_EXPIRY (R169, R170) -/

theorem exec_lastHeard_isolates (htimer : s.bus.lastHeard = some 0) (hheard : s.bus.heard = true)
    (hl : s.startUp.lifecycle = .joining ∨ s.startUp.lifecycle = .active) :
    exec .lastHeardTimerExpiry s = .next (enterIsolated s) := by
  change execLastHeardTimerExpiry s = _
  simp [execLastHeardTimerExpiry, lastHeardExpires, htimer, hheard, hl]

/-- What ISOLATED changes besides grants, mode and fan (R170). -/
theorem enterIsolated_marks (s : State) :
    (enterIsolated s).startUp = { s.startUp with lifecycle := .isolated } ∧ (enterIsolated s).bus.lastHeard = none ∧
    (enterIsolated s).responder.sticky = { s.responder.sticky with isolated := true } := by
  unfold enterIsolated
  dsimp only
  split <;> simp [setSticky, setLifecycle, refreshAlarm, FaultSet.insert]

/-- The fan of an owner is suspended with ISOLATED (R130). -/
theorem enterIsolated_suspended (howner : s.cfg.fanOwner = true) : (enterIsolated s).fan.suspended = true := by
  have hfan : (fanFollows (setSticky .isolated (setLifecycle .isolated
      { s with bus := { s.bus with lastHeard := none } }))).fan.suspended = true :=
    fanFollows_suspended (by simpa [fanActive, State.cfg, setSticky, Lifecycle.inService] using howner)
  unfold enterIsolated
  dsimp only
  split <;> simpa using hfan

/-- ISOLATED leaves no grant (R109). -/
theorem enterIsolated_grant (b : Budget) (hgrants : grantsSound s) : (enterIsolated s).grant b = 0 := by
  unfold enterIsolated
  dsimp only
  split
  · simpa [State.grant] using zeroGrants_grant b _
  · have h0 : s.grant b = 0 := ((grantsSound_iff s).mp hgrants b).2 (eligible_of_ne_active ‹_›)
    simpa [State.grant, setSticky] using h0

/-- ISOLATED leaves no ECONOMIZE (R19). -/
theorem enterIsolated_applied (hheld : economizeHeld s) : (enterIsolated s).engine.applied ≠ .economize := by
  unfold enterIsolated
  dsimp only
  split
  · intro happlied
    have hactive := (economizeHeld_holdTest _ happlied).1
    simp [setSticky] at hactive
  · rename_i hl
    intro happlied
    exact hl (hheld (by simpa [setSticky] using happlied)).1

/-- Settles O30: the moves of the two expiries, from the lemmas on their outputs, fan and grants. -/
theorem listenAndSilenceMoveTheLifecycle : Obligations.ListenAndSilenceMoveTheLifecycle := by
  unfold Obligations.ListenAndSilenceMoveTheLifecycle
  refine ⟨fun s htimer hl => ?_, fun s => exec_listenTimerExpiry_idle, fun s htimer hheard hl hgrants hheld => ?_, ?_, ?_⟩
  · obtain ⟨hidle, hbypass, houtdoor, hvalve⟩ := joinedOutputs_output s
    refine ⟨listenEnds s, exec_listenTimerExpiry_running htimer hl, by simp [listenEnds_eq], by simp, by simp, by simpa [listenEnds_eq] using hidle,
      by simp, by simpa [listenEnds_eq] using hbypass, by simpa [listenEnds_eq] using houtdoor, by simpa [listenEnds_eq] using hvalve,
      fun howner => ?_, fun howner hstuck => ?_, fun howner hstuck => ?_, by simp, by simp, by simp, by simp, by simp, by simp, by simp, by simp⟩
    · rw [listenEnds_eq, activateFan_of_not_active (by rw [fanActive_joinedOutputs, howner])]
      simp
    · obtain ⟨hsuspended, hstays, -⟩ := listenEnds_fan howner
      exact ⟨hsuspended.trans hstuck, hstays hstuck⟩
    · obtain ⟨hsuspended, -, hfollows⟩ := listenEnds_fan howner
      exact ⟨hsuspended.trans hstuck, hfollows hstuck⟩
  · obtain ⟨hstartUp, hlast, hsticky⟩ := enterIsolated_marks s
    have halarm : (enterIsolated s).responder.alarm = true :=
      alarm_of_fault (alarmFollows_enterIsolated s) (by simp) (faultsPresent_of_isolated (by simp))
    exact ⟨enterIsolated s, exec_lastHeard_isolates htimer hheard hl, hstartUp, hlast, by simpa using hheard,
      enterIsolated_grant .relief hgrants, enterIsolated_grant .wfc hgrants, enterIsolated_applied hheld, hsticky, halarm,
      enterIsolated_suspended, by simp, by simp, by simp, by simp, by simp, by simp⟩
  · intro s htimer h
    change execLastHeardTimerExpiry s = _
    rcases h with h | ⟨hjoining, hactive⟩
    · simp [execLastHeardTimerExpiry, lastHeardExpires, htimer, h]
    · simp [execLastHeardTimerExpiry, lastHeardExpires, htimer, hjoining, hactive]
  · intro s h
    change execLastHeardTimerExpiry s = _
    simp [execLastHeardTimerExpiry, h]

end Sys2Proof.Machine
end


-- ==== Sys2Proof/Proofs/Measurement.lean ====
section
/-! SUPPORT. The commands of the scanner and of the outdoor reconciler: strobes, conversions, the windows they move, the recomputation of the reference,
the judgement of the own sensor, and HOLD_TIMER_EXPIRY (spec/03, spec/04). -/

namespace Sys2Proof.Machine

variable {s t : State}

/-! ### Strobes (R40 to R45) -/

/-- A strobe starts a scan, or is counted while one is in flight. -/
theorem strobe_eq (s : State) : strobe s = { s with
    scanner := { s.scanner with scan := if s.scanner.scan = none then some { delivered := 0, left := 2 } else s.scanner.scan }
    counters := { s.counters with
      scanOverruns :=
        if s.scanner.scan = none then s.counters.scanOverruns else min 65535 (s.counters.scanOverruns + 1) } } := by
  unfold strobe
  split
  · rename_i f hscan
    simp [hscan, countOverrun, bump, satInc]
    rw [← hscan]
  · rename_i hscan
    simp [hscan]

theorem exec_scanTimerExpiry_running (scanIn : Bool) (h : s.scanner.scanTimer.isSome = true) :
    exec (.scanTimerExpiry scanIn) s = .next (scanTimerExpires scanIn s) := by
  change execScanTimerExpiry scanIn s = _
  simp [execScanTimerExpiry, h]

/-- Settles O31: the scan sources, and a strobe's two outcomes. -/
theorem strobesStartScansOrAreDropped : Obligations.StrobesStartScansOrAreDropped := by
  unfold Obligations.StrobesStartScansOrAreDropped
  refine ⟨fun scanIn s htimer => ?_, fun scanIn s htimer => ?_, fun s hsource hl => ?_, fun s h => ?_, fun s htimer => ?_, fun s htimer => ?_⟩
  · rw [exec_scanTimerExpiry_running scanIn htimer]
    refine ⟨decide (s.cfg.scanSource = .internal ∨ s.cfg.scanSource = .echo ∨ (s.cfg.scanSource = .gated ∧ scanIn = true)),
      by simp, ?_⟩
    unfold scanTimerExpires
    cases hsource : s.cfg.scanSource
    case gated => cases scanIn <;> simp [State.cfg, strobe_eq] at hsource ⊢ <;> simp [hsource]
    all_goals simp [State.cfg, strobe_eq, pulseScanOut] at hsource ⊢; simp [hsource]
  · change execScanTimerExpiry scanIn s = _
    simp [execScanTimerExpiry, htimer]
  · change execScanInRisingEdge s = _
    simp [execScanInRisingEdge, hsource, hl, strobe_eq]
  · change execScanInRisingEdge s = _
    rcases h with h | h <;> simp [execScanInRisingEdge, h]
  · change execScanOutPulseEnd s = _
    simp [execScanOutPulseEnd, htimer]
  · change execScanOutPulseEnd s = _
    simp [execScanOutPulseEnd, htimer]

/-! ### A conversion (R44, R46) -/

/-- The scan in flight has gone on to its next conversion, or ended. -/
def scanAdvanced (f : ScanInFlight) (s : State) : State :=
  { s with scanner := { s.scanner with scan := nextConversion s.cfg.scanList.length f.delivered } }

theorem exec_conversion_delivers {code : Code} {f : ScanInFlight} {q : Quantity} (hscan : s.scanner.scan = some f)
    (hq : (s.cfg.scanList[f.delivered]?).bind s.cfg.quantityOn = some q) :
    exec (.conversionComplete code) s = .next (deliver q code.toNat (scanAdvanced f s)) := by
  change execConversionComplete code s = _
  simp only [execConversionComplete, hscan, conversionCompletes, hq, scanAdvanced]

theorem exec_conversion_accepted {code : Code} {f : ScanInFlight} {q : Quantity} {v : Int} (hscan : s.scanner.scan = some f)
    (hq : (s.cfg.scanList[f.delivered]?).bind s.cfg.quantityOn = some q) (habsent : (s.scanner.windows.get q).state ≠ .absent)
    (hv : sampleOf q code.toNat = some v) :
    exec (.conversionComplete code) s = .next (deliverAccepted q v (scanAdvanced f s)) := by
  have habsent' : ((scanAdvanced f s).scanner.windows.get q).state ≠ .absent := habsent
  rw [exec_conversion_delivers hscan hq, deliver, if_neg habsent', hv]

theorem exec_conversion_rejected {code : Code} {f : ScanInFlight} {q : Quantity} (hscan : s.scanner.scan = some f)
    (hq : (s.cfg.scanList[f.delivered]?).bind s.cfg.quantityOn = some q) (habsent : (s.scanner.windows.get q).state ≠ .absent)
    (hv : sampleOf q code.toNat = none) :
    exec (.conversionComplete code) s = .next (deliverRejected q (scanAdvanced f s)) := by
  have habsent' : ((scanAdvanced f s).scanner.windows.get q).state ≠ .absent := habsent
  rw [exec_conversion_delivers hscan hq, deliver, if_neg habsent', hv]

/-! ### Windows (R47 to R50) -/

theorem Windows.anyFailed_iff (ws : Windows) : ws.anyFailed = true ↔ ∃ q, (ws.get q).state = .failed := by
  simp [Windows.anyFailed]

/-- The most recent sixteen samples (R47). -/
theorem Window.samples_accept {w : Window} (v : Int) (h : w.state ≠ .absent) :
    (w.accept v).samples = (if w.samples.length < 16 then w.samples else w.samples.drop 1) ++ [v] := by
  have hentered : (w.enter v).samples = (if w.samples.length < 16 then w.samples else w.samples.drop 1) ++ [v] := by
    unfold Window.enter
    split <;> rfl
  rw [← hentered]
  unfold Window.accept
  cases hstate : w.state
  case absent => exact absurd hstate h
  case valid => rfl
  all_goals dsimp only; split <;> rfl

theorem Window.lastAccepted_accept {w : Window} (v : Int) (h : w.state ≠ .absent) : (w.accept v).lastAccepted = some v := by
  unfold Window.accept
  cases hstate : w.state
  case absent => exact absurd hstate h
  case valid => rfl
  all_goals dsimp only; split <;> rfl

/-- The twelfth sample makes a quantity VALID (R48). -/
theorem Window.state_accept {w : Window} (v : Int) (h : w.state ≠ .absent) : (w.accept v).state =
    if w.state = .valid ∨ 12 ≤ (w.accept v).samples.length then .valid else w.state := by
  have hentered : (w.enter v).state = w.state := rfl
  unfold Window.accept
  cases hstate : w.state
  case absent => exact absurd hstate h
  case valid => simp [hentered, hstate]
  all_goals
    dsimp only
    split <;> simp [*]

theorem Window.substituteRun_accept {w : Window} (v : Int) (h : (w.accept v).state = .valid) : (w.accept v).substituteRun = 0 := by
  revert h
  have hentered : (w.enter v).state = w.state := rfl
  unfold Window.accept
  cases hstate : w.state <;> dsimp only
  case absent => simp [hstate]
  case valid => simp
  all_goals split <;> simp [hentered, hstate]

/-- An accepted sample makes no quantity FAILED. -/
theorem anyFailed_accept {q : Quantity} {v : Int} {ws : Windows}
    (h : (ws.set q ((ws.get q).accept v)).anyFailed = true) : ws.anyFailed = true := by
  rw [Windows.anyFailed_iff] at h ⊢
  obtain ⟨p, hp⟩ := h
  by_cases hpq : p = q
  · subst p
    refine ⟨q, ?_⟩
    by_cases habsent : (ws.get q).state = .absent
    · simp [Window.accept, habsent] at hp
    · rw [Windows_get_set, Window.state_accept v habsent] at hp
      split at hp
      · cases hp
      · exact hp
  · exact ⟨p, by simpa [hpq] using hp⟩

/-- A window that makes no quantity FAILED is put without SENSOR's sticky flag. -/
theorem putWindow_quiet {q : Quantity} {w : Window}
    (h : (s.scanner.windows.set q w).anyFailed = true → s.scanner.windows.anyFailed = true) :
    putWindow q w s = refreshAlarm { s with scanner := { s.scanner with windows := s.scanner.windows.set q w } } := by
  unfold putWindow
  dsimp only
  refine if_neg fun hnew => ?_
  simp only [Bool.and_eq_true, Bool.not_eq_true'] at hnew
  exact absurd (h hnew.1) (by simp [hnew.2])

/-- SENSOR's sticky flag is set when SENSOR becomes present (R50). -/
theorem putWindow_sticky (q : Quantity) (w : Window) (s : State) : (putWindow q w s).responder.sticky =
    if (s.scanner.windows.set q w).anyFailed = true ∧ s.scanner.windows.anyFailed = false then
      { s.responder.sticky with sensor := true }
    else s.responder.sticky := by
  unfold putWindow refreshAlarm
  dsimp only
  cases (s.scanner.windows.set q w).anyFailed <;> cases s.scanner.windows.anyFailed <;> rfl

/-! ### An accepted sample (R48) -/

/-- The windows after an accepted sample. -/
theorem windows_deliverAccepted (q p : Quantity) (v : Int) (s : State) : (deliverAccepted q v s).scanner.windows.get p =
    if p = q then (s.scanner.windows.get q).accept v else s.scanner.windows.get p := by
  have hput := windows_putWindow q p ((s.scanner.windows.get q).accept v) s
  unfold deliverAccepted
  cases q <;> simpa using hput

theorem sticky_deliverAccepted (q : Quantity) (v : Int) (s : State) :
    (deliverAccepted q v s).responder.sticky = s.responder.sticky := by
  have hput : (putWindow q ((s.scanner.windows.get q).accept v) s).responder.sticky = s.responder.sticky := by
    rw [putWindow_sticky]
    refine if_neg fun h => ?_
    rw [anyFailed_accept h.1] at h
    exact absurd h.2 (by decide)
  unfold deliverAccepted
  cases q <;> simpa using hput

/-- An accepted sample of a quantity that is not an outdoor one moves its window and ALARM alone (R52). -/
theorem deliverAccepted_indoor {q : Quantity} (v : Int) (hT : q ≠ .outT) (hW : q ≠ .outW) :
    deliverAccepted q v s = refreshAlarm
      { s with scanner := { s.scanner with windows := s.scanner.windows.set q ((s.scanner.windows.get q).accept v) } } := by
  have hput := putWindow_quiet (s := s) (q := q) (w := (s.scanner.windows.get q).accept v) anyFailed_accept
  rw [← hput]
  unfold deliverAccepted
  cases q <;> first | exact absurd rfl hT | exact absurd rfl hW | rfl

/-- Settles O32: the window by its lemmas, and the rest by what an accepted sample leaves. -/
theorem acceptedSampleEntersItsWindow : Obligations.AcceptedSampleEntersItsWindow := by
  unfold Obligations.AcceptedSampleEntersItsWindow
  refine ⟨fun code f q v s hscan hq habsent hv => ?_, fun code f s hscan hnone => ?_, fun code s hscan => ?_⟩
  · have hwindow := windows_deliverAccepted q q v (scanAdvanced f s)
    rw [if_pos rfl] at hwindow
    refine ⟨deliverAccepted q v (scanAdvanced f s), (s.scanner.windows.get q).accept v,
      exec_conversion_accepted hscan hq habsent hv, hwindow, Window.samples_accept v habsent, Window.lastAccepted_accept v habsent,
      Window.state_accept v habsent, Window.substituteRun_accept v, fun p hp => ?_, by simp [scanAdvanced, nextConversion],
      by simp [scanAdvanced], by simp [scanAdvanced], by simp [scanAdvanced], by simp [scanAdvanced],
      sticky_deliverAccepted q v _, by simp [scanAdvanced], fun hT hW => ?_⟩
    · rw [windows_deliverAccepted, if_neg hp]
      rfl
    · rw [deliverAccepted_indoor v hT hW]
      exact ⟨_, rfl⟩
  · change execConversionComplete code s = _
    simp only [execConversionComplete, hscan, conversionCompletes]
    cases hq : (s.cfg.scanList[f.delivered]?).bind s.cfg.quantityOn with
    | none => rfl
    | some q => simp only [deliver, if_pos (hnone q hq), nextConversion]
  · change execConversionComplete code s = _
    simp only [execConversionComplete, hscan]

/-! ### A rejected sample (R49, R50) -/

theorem Window.reject_not_valid {w : Window} (h : w.state ≠ .valid) (habsent : w.state ≠ .absent) : w.reject = emptyWindow w.state := by
  unfold Window.reject
  cases hstate : w.state
  case absent => exact absurd hstate habsent
  case valid => exact absurd hstate h
  all_goals rfl

theorem Window.reject_last {w : Window} (h : w.state = .valid) (hrun : w.substituteRun = 7) : w.reject = emptyWindow .failed := by
  unfold Window.reject
  cases hlast : w.lastAccepted <;> simp [h, hrun]

/-- A substitute is the last accepted value (R49). -/
theorem Window.reject_substitutes {w : Window} {x : Int} (h : w.state = .valid) (hrun : w.substituteRun < 7)
    (hlast : w.lastAccepted = some x) : w.reject = {
      state := .valid, samples := (if w.samples.length < 16 then w.samples else w.samples.drop 1) ++ [x]
      lastAccepted := some x, substituteRun := w.substituteRun + 1 } := by
  unfold Window.reject Window.enter
  simp only [h, hlast, if_neg (Nat.not_le.mpr hrun)]
  split <;> rfl

theorem windows_deliverRejected (q p : Quantity) (s : State) : (deliverRejected q s).scanner.windows.get p =
    if p = q then (s.scanner.windows.get q).reject else s.scanner.windows.get p := by
  have hput := windows_putWindow q p (s.scanner.windows.get q).reject (countReject s)
  unfold deliverRejected
  dsimp only
  split <;> simpa using hput

theorem deliverRejected_indoor {q : Quantity} (hT : q ≠ .outT) (hW : q ≠ .outW) :
    deliverRejected q s = putWindow q (s.scanner.windows.get q).reject (countReject s) := by
  have hindoor : q.isOutdoor = false := by cases q <;> first | exact absurd rfl hT | exact absurd rfl hW | rfl
  simp [deliverRejected, hindoor]

theorem sticky_deliverRejected (q : Quantity) (s : State) : (deliverRejected q s).responder.sticky =
    if (s.scanner.windows.set q (s.scanner.windows.get q).reject).anyFailed = true ∧ s.scanner.windows.anyFailed = false then
      { s.responder.sticky with sensor := true }
    else s.responder.sticky := by
  have hput := putWindow_sticky q (s.scanner.windows.get q).reject (countReject s)
  unfold deliverRejected
  dsimp only
  split <;> simpa using hput

@[simp] theorem deliverRejected_frame (q : Quantity) (s : State) :
    (deliverRejected q s).startUp = s.startUp ∧ (deliverRejected q s).table = s.table ∧
    (deliverRejected q s).freeDraws = s.freeDraws ∧ (deliverRejected q s).scanner.scan = s.scanner.scan ∧
    (deliverRejected q s).counters = (countReject s).counters := by
  unfold deliverRejected
  dsimp only
  split <;> simp

theorem alarmFollows_putWindow (q : Quantity) (w : Window) (s : State) : alarmFollows (putWindow q w s) := by
  unfold putWindow
  dsimp only
  split <;> rfl

theorem alarmFollows_deliverRejected (q : Quantity) (s : State) : alarmFollows (deliverRejected q s) := by
  have hput := alarmFollows_putWindow q (s.scanner.windows.get q).reject (countReject s)
  unfold deliverRejected
  dsimp only
  split
  · exact alarm_aside.safe.recompute hput
  · exact hput

/-- Settles O33: the window by its lemmas, SENSOR by the window that fails. -/
theorem rejectedSampleSubstitutesOrEmpties : Obligations.RejectedSampleSubstitutesOrEmpties := by
  unfold Obligations.RejectedSampleSubstitutesOrEmpties
  intro code f q s hscan hq habsent hsound hv
  have hwindow := windows_deliverRejected q q (scanAdvanced f s)
  rw [if_pos rfl] at hwindow
  change _ = (s.scanner.windows.get q).reject at hwindow
  refine ⟨deliverRejected q (scanAdvanced f s), exec_conversion_rejected hscan hq habsent hv, ?_, fun hnot => ?_, fun hvalid hrun => ?_,
    fun hvalid hrun => ?_, fun p hp => ?_, ?_, ?_, ?_, ?_, fun hT hW => ?_⟩
  · simp [countReject, bump, satInc, scanAdvanced]
  · rw [hwindow, Window.reject_not_valid hnot habsent]
  · obtain ⟨x, hx⟩ := Option.isSome_iff_exists.mp (hsound.2.2 hvalid).2.2.2
    exact ⟨x, hx, by rw [hwindow, Window.reject_substitutes hvalid hrun hx]⟩
  · have hreject := Window.reject_last hvalid hrun
    have hfailed : (s.scanner.windows.set q (s.scanner.windows.get q).reject).anyFailed = true :=
      (Windows.anyFailed_iff _).mpr ⟨q, by rw [Windows_get_set, hreject]; rfl⟩
    refine ⟨hwindow.trans hreject, ?_, fun hl => ?_⟩
    · rw [sticky_deliverRejected]
      change ((if (s.scanner.windows.set q (s.scanner.windows.get q).reject).anyFailed = true ∧ s.scanner.windows.anyFailed = false then
        { s.responder.sticky with sensor := true } else s.responder.sticky : FaultSet)).sensor = _
      cases hbefore : s.scanner.windows.anyFailed <;> simp [hfailed]
    · refine alarm_of_fault (alarmFollows_deliverRejected q _) ?_ (faultsPresent_of_failed (q := q) ?_)
      · unfold deliverRejected
        dsimp only
        split <;> simpa [scanAdvanced] using hl
      · rw [hwindow, hreject]
        rfl
  · rw [windows_deliverRejected, if_neg hp]
    rfl
  · simp [scanAdvanced, nextConversion]
  · simp [scanAdvanced]
  · simp [scanAdvanced]
  · simp [scanAdvanced]
  · rw [deliverRejected_indoor hT hW]
    unfold putWindow
    dsimp only
    split <;> rfl

/-! ### Candidates and recomputation (R60 to R64) -/

/-- What a recomputation does to the record, by whether candidates stand. -/
theorem recomputed_of_ne {cs : List (Int × Int)} (holdMs : Nat) (r : Reconciler) (h : cs ≠ []) : ∃ p : OutdoorPoint,
    recomputed holdMs cs r = { r with reference := .fresh p, count := cs.length, hold := none } ∧
    lowerMedian (cs.map Prod.fst) = some p.t ∧ lowerMedian (cs.map Prod.snd) = some p.w ∧ p.h = enthalpy p.t p.w := by
  obtain ⟨hmedian, -⟩ := medianIsTheLowerMiddleValue
  obtain ⟨x, hx, -⟩ := hmedian (cs.map Prod.fst) (by simpa using h)
  obtain ⟨w, hw, -⟩ := hmedian (cs.map Prod.snd) (by simpa using h)
  exact ⟨{ t := x, w := w, h := enthalpy x w }, recomputed_fresh holdMs cs r x w hx hw, hx, hw, rfl⟩

theorem recomputed_nil (holdMs : Nat) (r : Reconciler) : recomputed holdMs [] r =
    match r.reference with
    | .fresh p => { r with reference := .held p, count := 0, hold := some holdMs }
    | .held _ | .invalid => { r with count := 0 } := by
  cases hr : r.reference <;> simp [recomputed, hr]

/-- A recomputation leaves the own sensor's state and the runs. -/
@[simp] theorem recomputed_own (holdMs : Nat) (cs : List (Int × Int)) (r : Reconciler) :
    (recomputed holdMs cs r).own = r.own ∧ (recomputed holdMs cs r).disagreeRun = r.disagreeRun ∧
    (recomputed holdMs cs r).agreeRun = r.agreeRun := by
  by_cases h : cs = []
  · subst h
    rw [recomputed_nil]
    split <;> exact ⟨rfl, rfl, rfl⟩
  · obtain ⟨p, hp, -⟩ := recomputed_of_ne holdMs r h
    simp [hp]

/-- A state whose record is the one recomputed over its own candidates follows R63 and R64. -/
theorem referenceFollows_of_recomputed {r : Reconciler} {cs : List (Int × Int)}
    (h : t.reconciler = recomputed (mins s.cfg.holdLimit) cs r) (hcs : candidates t = cs)
    (hreference : r.reference = s.reconciler.reference) (hhold : r.hold = s.reconciler.hold) : referenceFollows s t := by
  subst hcs
  refine ⟨fun hne => ?_, fun hnil => ?_⟩
  · obtain ⟨p, hp, ht, hw, henthalpy⟩ := recomputed_of_ne (mins s.cfg.holdLimit) r hne
    rw [h, hp]
    exact ⟨⟨p, rfl, ht, hw, henthalpy⟩, rfl, rfl⟩
  · rw [h, hnil, recomputed_nil, ← hreference, ← hhold]
    cases hr : r.reference <;> simp

theorem candidates_recompute (u : State) : candidates (recompute u) = candidates u :=
  candidates_congr (by simp) (by simp) (by simp [recompute_reconciler]) (by simp)

theorem referenceFollows_recompute {u : State} (hcfg : u.startUp.settings = s.startUp.settings)
    (hreference : u.reconciler.reference = s.reconciler.reference) (hhold : u.reconciler.hold = s.reconciler.hold) :
    referenceFollows s (recompute u) :=
  referenceFollows_of_recomputed (r := u.reconciler) (by rw [recompute_reconciler, State.cfg, State.cfg, hcfg])
    (candidates_recompute u) hreference hhold

theorem referenceFollows_reportChange {u : State} (order : ReportOrder) {p : Report} (hp : p.reference = true)
    (hcfg : u.startUp.settings = s.startUp.settings) (hreconciler : u.reconciler = s.reconciler) :
    referenceFollows s (reportChange order p u) := by
  refine referenceFollows_of_recomputed (r := u.reconciler) (cs := candidates u) ?_ ?_ (by rw [hreconciler]) (by rw [hreconciler])
  · rw [reportChange_reconciler, if_pos hp, State.cfg, State.cfg, hcfg]
  · exact candidates_congr (by simp) (by simp) (by simp [reportChange_reconciler, hp]) (by simp)

theorem deliverAccepted_outdoor {q : Quantity} (v : Int) (h : q = .outT ∨ q = .outW) :
    referenceFollows s (deliverAccepted q v s) := by
  rcases h with rfl | rfl
  · exact referenceFollows_recompute (by simp) (by simp [judgeOwnSensor_reference]) (by simp [judgeOwnSensor_reference])
  · exact referenceFollows_recompute (by simp) (by simp) (by simp)

theorem deliverRejected_outdoor {q : Quantity} (h : q = .outT ∨ q = .outW) (hvalid : (s.scanner.windows.get q).state = .valid) :
    referenceFollows s (deliverRejected q s) := by
  have houtdoor : q.isOutdoor = true := by rcases h with rfl | rfl <;> rfl
  simp only [deliverRejected, houtdoor, hvalid, decide_true, Bool.and_true, if_true]
  exact referenceFollows_recompute (by simp) (by simp) (by simp)

/-! ### Records due (R84 to R87) -/

/-- A record of a sound table is the one found at its address. -/
theorem findRecord_of_mem {r : PeerRecord} {l : List PeerRecord} (hl : l.Pairwise fun a b => a.address < b.address)
    (h : r ∈ l) : findRecord r.address l = some r := by
  induction l with
  | nil => cases h
  | cons x xs ih =>
    obtain ⟨hx, hxs⟩ := List.pairwise_cons.mp hl
    rcases List.mem_cons.mp h with rfl | h
    · simp [findRecord]
    · rw [findRecord, if_neg (Nat.ne_of_lt (hx r h)), ih hxs h]

theorem recordDue_of_mem {r : PeerRecord} {expiry : SilenceExpiry} {multiple : Nat} (htable : tableSound s) (hr : r ∈ s.table.records)
    (haddress : r.address = expiry.peer.toNat)
    (hdue : multiple * (max 5 (min 60 r.said.period)) * 1000 ≤ max r.silence expiry.elapsed) :
    recordDue s expiry r.state multiple = some r := by
  have hfound := findRecord_of_mem htable.2.1 hr
  have hsilent : silent multiple expiry.elapsed r = true := by
    simpa [silent, secs, PeerRecord.pp, clampNat] using hdue
  rw [recordDue, ← haddress, hfound]
  simp [Option.filter, hsilent]

theorem exec_silenceCoasting {expiry : SilenceExpiry} {r : PeerRecord} (order : ReportOrder)
    (h : recordDue s expiry .live 2 = some r) : exec (.silenceCoasting expiry order) s = .next (coast order r s) := by
  change execSilenceCoasting expiry order s = _
  simp [execSilenceCoasting, h]

theorem exec_silenceFreed {expiry : SilenceExpiry} {r : PeerRecord} (order : ReportOrder)
    (h : recordDue s expiry .lost 30 = some r) : exec (.silenceFreed expiry order) s = .next (free order r s) := by
  change execSilenceFreed expiry order s = _
  simp [execSilenceFreed, h]

/-- The peer candidates, written out (R61). -/
theorem peerCandidates_eq (s : State) : peerCandidates s = s.table.records.flatMap fun r =>
    match r.said.observation with
    | some o =>
      if r.state = .live ∧
          (((min 600 s.cfg.height : Nat) : Int) - ((min 600 r.said.height : Nat) : Int)).natAbs ≤ s.cfg.reach then
        [(correctedTemp s.cfg.lapse s.cfg.height r.said.height o.t, max 0 (min 3000 (o.w : Int)))]
      else []
    | none => [] := by
  rw [peerCandidates, List.filterMap_eq_flatMap_toList]
  congr 1
  funext r
  unfold peerCandidate heightDistance clampInt
  cases r.said.observation with
  | none => rfl
  | some o =>
    simp only [Nat.min_comm s.cfg.height, Nat.min_comm r.said.height]
    split <;> rfl

/-- Settles O34: the reports that end with a recomputation. -/
theorem referenceRecomputedOnReports : Obligations.ReferenceRecomputedOnReports := by
  unfold Obligations.ReferenceRecomputedOnReports
  refine ⟨fun s => ⟨rfl, fun t w hown ht hw => by simp [ownCandidate, hown, ht, hw], fun h => ?_, peerCandidates_eq s⟩,
    fun code f q s hq hscan hchannel hvalid hv => ?_, fun code f q v s hq hscan hchannel habsent hv => ?_,
    fun expiry order r s htable hr haddress hstate hdue => ?_, fun expiry order r s htable hr haddress hstate hdue => ?_⟩
  · unfold ownCandidate
    rcases h with h | h | h
    · rw [h]
    · simp [h]
    · simp [h]
  · exact ⟨_, exec_conversion_rejected hscan hchannel (by simp [hvalid]) hv,
      deliverRejected_outdoor (s := scanAdvanced f s) hq hvalid⟩
  · exact ⟨_, exec_conversion_accepted hscan hchannel habsent hv, deliverAccepted_outdoor (s := scanAdvanced f s) v hq⟩
  · exact ⟨_, exec_silenceCoasting order (hstate ▸ recordDue_of_mem htable hr haddress hdue),
      referenceFollows_reportChange order rfl rfl rfl⟩
  · exact ⟨_, exec_silenceFreed order (hstate ▸ recordDue_of_mem htable hr haddress hdue),
      referenceFollows_reportChange order rfl rfl rfl⟩

/-! ### The judgement of the own sensor (R67, R68) -/

/-- Without an average of OUT_T or two peer candidates there is no judgement. -/
theorem judgeOwnSensor_of_not (h : s.reading .outT = none ∨ (peerCandidates s).length < 2) : judgeOwnSensor s = s := by
  unfold judgeOwnSensor
  split
  · rename_i own med hown hmed
    rcases h with h | h
    · exact absurd (h.symm.trans hown) (by simp)
    · rw [if_neg (by omega)]
  · rfl

theorem judgeOwnSensor_of {own med : Int} (hown : s.reading .outT = some own) (hpeers : 2 ≤ (peerCandidates s).length)
    (hmed : lowerMedian ((peerCandidates s).map Prod.fst) = some med) : (judgeOwnSensor s).reconciler =
      judged (decide ((s.cfg.outlier : Int) < ((own - med).natAbs : Int))) s.reconciler := by
  simp [judgeOwnSensor, hown, hmed, hpeers]

/-- Settles O35: the table of R68 for each verdict, and no verdict. -/
theorem ownSensorJudgedAgainstPeers : Obligations.OwnSensorJudgedAgainstPeers := by
  unfold Obligations.OwnSensorJudgedAgainstPeers
  intro code f v s hscan hq habsent hv
  refine ⟨deliverAccepted .outT v (scanAdvanced f s), exec_conversion_accepted hscan hq habsent hv, ?_⟩
  have hpeers : peerCandidates (putWindow .outT (((scanAdvanced f s).scanner.windows.get .outT).accept v) (scanAdvanced f s)) =
      peerCandidates s := peerCandidates_congr (by simp [scanAdvanced]) (by simp [scanAdvanced])
  have hreconciler : (putWindow .outT (((scanAdvanced f s).scanner.windows.get .outT).accept v) (scanAdvanced f s)).reconciler =
      s.reconciler := by simp [scanAdvanced]
  have hcfg : (putWindow .outT (((scanAdvanced f s).scanner.windows.get .outT).accept v) (scanAdvanced f s)).cfg = s.cfg := by
    simp [scanAdvanced, State.cfg]
  unfold deliverAccepted
  dsimp only
  generalize putWindow .outT (((scanAdvanced f s).scanner.windows.get .outT).accept v) (scanAdvanced f s) = u at *
  have hreading : (recompute (judgeOwnSensor u)).reading .outT = u.reading .outT := by simp [State.reading]
  have hkept : (recompute (judgeOwnSensor u)).reconciler.own = (judgeOwnSensor u).reconciler.own ∧
      (recompute (judgeOwnSensor u)).reconciler.disagreeRun = (judgeOwnSensor u).reconciler.disagreeRun ∧
      (recompute (judgeOwnSensor u)).reconciler.agreeRun = (judgeOwnSensor u).reconciler.agreeRun := by
    simp [recompute_reconciler]
  obtain ⟨hown, hdisagree, hagree⟩ := hkept
  rw [hreading, hown, hdisagree, hagree, ← hpeers]
  refine ⟨fun h => ?_, fun own med hown' htwo hmed => ?_⟩
  · rw [judgeOwnSensor_of_not h, hreconciler]
    exact ⟨rfl, rfl, rfl⟩
  · rw [judgeOwnSensor_of hown' htwo hmed, hreconciler, hcfg]
    refine ⟨fun hfar hin => ?_, fun hnear hin => ?_, fun hnear hout => ?_, fun hfar hout => ?_⟩
    · rw [decide_eq_true (by omega)]
      refine ⟨fun hrun => ?_, fun hrun => ?_⟩
      · simp [judged, hin, show ¬ s.reconciler.disagreeRun + 1 ≥ 30 by omega]
      · simp [judged, hin, show s.reconciler.disagreeRun + 1 ≥ 30 by omega]
    · rw [decide_eq_false (by omega)]
      simp [judged, hin, satInc]
    · rw [decide_eq_false (by omega)]
      refine ⟨fun hrun => ?_, fun hrun => ?_⟩
      · simp [judged, hout, show ¬ s.reconciler.agreeRun + 1 ≥ 30 by omega]
      · simp [judged, hout, show s.reconciler.agreeRun + 1 ≥ 30 by omega]
    · rw [decide_eq_true (by omega)]
      simp [judged, hout, satInc]

/-! ### The hold timer (R65, R95) -/

theorem shareOf_le_sumShares (a : Nat) (ps : List Participant) : shareOf a ps ≤ sumShares ps := by
  induction ps with
  | nil => exact Nat.le_refl 0
  | cons p ps ih =>
    unfold shareOf sumShares
    split <;> omega

/-- A budget of 0 gives no share (R103). -/
theorem shareOf_divide_zero (a : Nat) {ps : List Participant} (h : ∀ p ∈ ps, p.share = none) : shareOf a (divide 0 ps) = 0 := by
  obtain ⟨-, -, -, -, -, hsum⟩ := divisionStaysWithinTheBudget 0 ps h
  have hle := shareOf_le_sumShares a (divide 0 ps)
  omega

theorem share_participantsOf {b : Budget} {p : Participant} (h : p ∈ participantsOf b s) : p.share = none := by
  obtain ⟨-, rfl | ⟨r, -, rfl⟩⟩ := mem_participantsOf.mp h <;> rfl

/-- An allocation of the WFC budget moves its own record and the valve alone. -/
theorem allocate_wfc_frame (s : State) :
    (allocate .wfc s).engine = s.engine ∧ (allocate .wfc s).stagger = s.stagger ∧ (allocate .wfc s).fan = s.fan ∧
    (allocate .wfc s).bus = s.bus ∧ (allocate .wfc s).responder = s.responder ∧ (allocate .wfc s).rotation = s.rotation ∧
    (allocate .wfc s).allocator.relief = s.allocator.relief ∧
    (allocate .wfc s).output = { s.output with wfcPos := (allocate .wfc s).output.wfcPos } := by
  unfold allocate reduceGrant
  dsimp only
  split
  · unfold handOnGrant driveValve
    dsimp only
    split <;> exact ⟨rfl, rfl, rfl, rfl, rfl, rfl, rfl, rfl⟩
  · exact ⟨rfl, rfl, rfl, rfl, rfl, rfl, rfl, rfl⟩

/-- The derating of an INVALID reference (R95). -/
theorem derate_invalid (h : s.reconciler.reference = .invalid) : derate s =
    if s.allocator.wfc.value = 0 then s
    else allocate .wfc { s with allocator := { s.allocator with wfc := { s.allocator.wfc with value := 0 } } } := by
  simp [derate, h, Reference.point, wfcBudget, eq_comm]

/-- The reference has become INVALID, before the allocator hears of it. -/
def invalidated (s : State) : State :=
  setSticky .reference (refreshAlarm { s with reconciler := { s.reconciler with reference := .invalid, count := 0, hold := none } })

theorem holdExpires_held {p : OutdoorPoint} (h : s.reconciler.reference = .held p) : holdExpires s = derate (invalidated s) := by
  have hne : (invalidated s).reconciler.reference ≠ s.reconciler.reference := by rw [h]; nofun
  exact if_neg hne

/-- Settles O36: the report of the INVALID reference, and the division of a budget of 0. -/
theorem holdExpiryInvalidatesTheReference : Obligations.HoldExpiryInvalidatesTheReference := by
  unfold Obligations.HoldExpiryInvalidatesTheReference
  constructor
  · intro p s hheld hhold
    have hexec : exec .holdTimerExpiry s = .next (derate (invalidated s)) := by
      change execHoldTimerExpiry s = _
      simp [execHoldTimerExpiry, hhold, holdExpires_held hheld]
    have halarm : s.startUp.lifecycle ≠ .config → (invalidated s).responder.alarm = true := by
      intro hl
      have hfollows : alarmFollows (invalidated s) := rfl
      exact alarm_of_fault hfollows hl (faultsPresent_of_reference rfl hl)
    refine ⟨_, hexec, ?_⟩
    rw [derate_invalid rfl]
    split
    case isTrue hzero =>
      exact ⟨rfl, rfl, halarm, hzero, fun h => absurd hzero h, rfl, rfl, rfl, rfl, rfl, rfl, rfl, rfl, rfl, rfl⟩
    case isFalse =>
      obtain ⟨hengine, hstagger, hfan, hbus, hresponder, -, hrelief, houtput⟩ := allocate_wfc_frame
        { invalidated s with allocator := { (invalidated s).allocator with wfc := { (invalidated s).allocator.wfc with value := 0 } } }
      have hget := allocate_get .wfc
        { invalidated s with allocator := { (invalidated s).allocator with wfc := { (invalidated s).allocator.wfc with value := 0 } } }
      rw [hengine, hstagger, hfan, hbus, hresponder, hrelief]
      change (allocate _ _).allocator.wfc = _ at hget
      have hshare : shareOf s.startUp.address (sharesOf .wfc
          { invalidated s with allocator := { (invalidated s).allocator with wfc := { (invalidated s).allocator.wfc with value := 0 } } }) = 0 :=
        shareOf_divide_zero _ fun _ => share_participantsOf
      refine ⟨by simp [invalidated], rfl, halarm, by rw [hget]; rfl, fun _ => ⟨?_, ?_⟩, rfl, by simp [invalidated], by simp [invalidated],
        rfl, by simp [invalidated], rfl, rfl, rfl, by simp [invalidated], houtput⟩
      · rw [hget]
        exact hshare
      · change (allocate _ _).allocator.wfc.grant = 0
        rw [hget]
        exact Nat.le_zero.mp ((Nat.min_le_right _ _).trans hshare.le)
  · intro s h
    change execHoldTimerExpiry s = _
    simp [execHoldTimerExpiry, h]

end Sys2Proof.Machine
end


-- ==== Sys2Proof/Proofs/Output.lean ====
section
/-! SUPPORT. The commands of the rotation counter and the output stage, the polarity test, and the timers of wheel, damper, force-bypass and fan
(spec/03 section 3.5, spec/08, R22, R128). -/

namespace Sys2Proof.Machine

variable {s t : State}

/-! ### Forced changes (R23) -/

/-- A forced change of another mode than BYPASS, before wheel and dampers follow. -/
def forcedStart (s : State) : State :=
  { cancelPending s with engine := { s.engine with applied := .bypass, target := .bypass, dwell := 0 } }

theorem forcedChange_eq (h : s.engine.applied ≠ .bypass) :
    forcedChange s = driveDampers (wheelFollows .bypass (forcedStart s)) := by
  unfold forcedChange applyMode forcedStart
  dsimp only
  rw [if_neg (by simpa using h)]
  simp

/-- A forced change of another mode drives the dampers to the positions of BYPASS (R133). -/
theorem forcedChange_commands (h : s.engine.applied ≠ .bypass) (hservice : s.startUp.lifecycle.inService = true) :
    (forcedChange s).output.bypass.command = 1000 ∧ (forcedChange s).output.outdoor.command = s.cfg.fmin := by
  obtain ⟨hbypass, houtdoor⟩ := driveDampers_commands (wheelFollows .bypass (forcedStart s)) (by simpa [forcedStart] using hservice)
  rw [forcedChange_eq h]
  exact ⟨by simpa [bypassCommand, forcedStart, Mode.inPair] using hbypass,
    by simpa [outdoorCommand, forcedStart, State.cfg] using houtdoor⟩

/-- A STALLED wheel does not follow a forced change (R140). -/
theorem forcedChange_stalled (h : s.engine.applied ≠ .bypass) (hwheel : s.output.wheel = .stalled) :
    forcedChange s = driveDampers (forcedStart s) := by
  have hfollows : wheelFollows .bypass (forcedStart s) = forcedStart s := by simp [wheelFollows, forcedStart, hwheel]
  rw [forcedChange_eq h, hfollows]

/-! ### The rotation counter (R54, R55) -/

theorem exec_gateWindowExpiry_running (h : s.rotation.gate.isSome = true) : exec .gateWindowExpiry s = .next (gateExpires s) := by
  change execGateWindowExpiry s = _
  simp [execGateWindowExpiry, h]

/-- The wheel is STALLED with its outputs off and the counter idle; what a forced change adds is left out (R140). -/
def stalledState (s : State) : State := setSticky .wheelStall (moveWheel .stalled s)

theorem declareStall_eq (s : State) :
    declareStall s = if s.engine.applied.inPair then forcedChange (stalledState s) else stalledState s := rfl

theorem declareStall_pair (h : s.engine.applied.inPair = true) : declareStall s = driveDampers (forcedStart (stalledState s)) := by
  have hne : (stalledState s).engine.applied ≠ .bypass := fun h' => by
    rw [show s.engine.applied = .bypass from h'] at h
    cases h
  rw [declareStall_eq, if_pos h, forcedChange_stalled hne rfl]

/-- What every stall does to wheel, outputs and counter (R55, R140). -/
theorem declareStall_wheel (s : State) :
    (declareStall s).output.wheel = .stalled ∧ (declareStall s).output.wheelRun = false ∧ (declareStall s).output.wheelSpd = 0 ∧
    (declareStall s).output.idle = none ∧ (declareStall s).output.purge = none ∧ (declareStall s).rotation = idleRotation ∧
    (declareStall s).responder.sticky = { s.responder.sticky with wheelStall := true } := by
  cases h : s.engine.applied.inPair
  · rw [declareStall_eq, if_neg (by simp [h])]
    exact ⟨rfl, rfl, rfl, rfl, rfl, rfl, rfl⟩
  · rw [declareStall_pair h]
    simp [forcedStart, stalledState, moveWheel, wheelSpeed, setSticky, refreshAlarm, FaultSet.insert]

theorem alarmFollows_declareStall (s : State) : alarmFollows (declareStall s) := by
  rw [declareStall_eq]
  split
  · exact alarmFollows_forcedChange rfl
  · rfl

/-- Settles O37: a window that does not find the second zero, and the stall. -/
theorem gateWindowsMeasureOrStall : Obligations.GateWindowsMeasureOrStall := by
  unfold Obligations.GateWindowsMeasureOrStall
  refine ⟨fun s hgate => ?_, fun s hgate => ⟨?_, ?_⟩, fun s hgate hnot => ?_, fun s hgate hsettled hzero hrun => ?_⟩
  · change execRotInRisingEdge s = _
    simp [execRotInRisingEdge, hgate, satInc]
  · change execRotInRisingEdge s = _
    simp [execRotInRisingEdge, hgate]
  · change execGateWindowExpiry s = _
    simp [execGateWindowExpiry, hgate]
  · have hno : ¬ (s.rotation.settling = false ∧ 2 ≤ nextZeroRun s.rotation) := by
      unfold nextZeroRun
      rintro ⟨hsettled, htwo⟩
      rw [if_neg (by simp [hsettled])] at htwo
      split at htwo
      · rcases hnot with h | h | h
        · simp [hsettled] at h
        · omega
        · omega
      · omega
    rw [exec_gateWindowExpiry_running hgate, gateExpires, if_neg hno]
    rfl
  · have hstalls : gateExpires s = declareStall s := by
      refine if_pos ⟨hsettled, ?_⟩
      simp only [nextZeroRun, hsettled, hzero]
      simpa using hrun
    obtain ⟨hwheel, hrunning, hspeed, hidle, hpurge, hrotation, hsticky⟩ := declareStall_wheel s
    refine ⟨declareStall s, by rw [exec_gateWindowExpiry_running hgate, hstalls], hwheel, hrunning, hspeed, hidle, hpurge, hrotation,
      hsticky, fun hl => ?_, fun hpair => ?_, fun hpair => ?_, by simp, by simp, by simp, by simp, by simp, by simp, by simp, by simp⟩
    · exact alarm_of_fault (alarmFollows_declareStall s) (by simpa using hl) (faultsPresent_of_stalled hwheel)
    · have hne : (stalledState s).engine.applied ≠ .bypass := fun h' => by
        rw [show s.engine.applied = .bypass from h'] at hpair
        cases hpair
      have hforced : declareStall s = forcedChange (stalledState s) := if_pos hpair
      rw [hforced]
      refine ⟨by rw [forcedChange_engine]; rfl, ?_, fun hservice => forcedChange_commands hne hservice⟩
      rw [forcedChange_stalled hne rfl]
      simp [forcedStart]
    · have hstays : declareStall s = stalledState s := if_neg (by simp [hpair])
      rw [hstays]
      exact ⟨rfl, rfl, rfl⟩

/-! ### Timers of one owner (R22, R128, R137, R138, R145) -/

/-- Settles O38: each expiry by its command. -/
theorem timersOfWheelDamperAndFanExpire : Obligations.TimersOfWheelDamperAndFanExpire := by
  unfold Obligations.TimersOfWheelDamperAndFanExpire
  refine ⟨fun s hidle hwheel => ⟨(moveWheel .purging s).responder.alarm, ?_⟩, fun s hpurge hwheel => ⟨(moveWheel .stopped s).responder.alarm, ?_⟩, fun s => ⟨fun h => ?_, fun h => ?_⟩,
    fun s h => ?_, fun s h => ?_, fun s => ⟨fun h => ?_, fun h => ?_⟩, fun s h => ?_, fun s h => ?_,
    fun s howner hservice hsuspended hoff hstate => ?_, fun s h => ?_⟩
  · change execIdleTimerExpiry s = _
    rw [execIdleTimerExpiry, if_pos ⟨hidle, hwheel⟩]
    rfl
  · change execPurgeTimerExpiry s = _
    rw [execPurgeTimerExpiry, if_pos ⟨hpurge, hwheel⟩]
    rfl
  · change execIdleTimerExpiry s = _
    simp [execIdleTimerExpiry, h]
  · change execPurgeTimerExpiry s = _
    simp [execPurgeTimerExpiry, h]
  · change execSettleTimerExpiry .bypass s = _
    simp [execSettleTimerExpiry, Output.damper, Output.setDamper, h]
  · change execSettleTimerExpiry .outdoor s = _
    simp [execSettleTimerExpiry, Output.damper, Output.setDamper, h]
  · change execSettleTimerExpiry .bypass s = _
    simp [execSettleTimerExpiry, Output.damper, h]
  · change execSettleTimerExpiry .outdoor s = _
    simp [execSettleTimerExpiry, Output.damper, h]
  · change execForceBypassTimerExpiry s = _
    simp [execForceBypassTimerExpiry, h]
  · change execForceBypassTimerExpiry s = _
    simp [execForceBypassTimerExpiry, h]
  · change execOffDelayTimerExpiry s = _
    have hactive : fanActive s = true := by simp [fanActive, howner, hservice]
    simp [execOffDelayTimerExpiry, hactive, hsuspended, hoff, hstate]
  · change execOffDelayTimerExpiry s = _
    rcases h with h | h | h
    · simp [execOffDelayTimerExpiry, h]
    · simp [execOffDelayTimerExpiry, fanActive, h]
    · simp [execOffDelayTimerExpiry, h]

/-! ### The polarity test (R142 to R144) -/

/-- A damper after a drive to a command (R145). -/
def driven (stroke v : Nat) (d : DamperState) : DamperState :=
  if d.command = v then d else { d with command := v, settle := some (secs stroke) }

theorem damper_setCommand (d : Damper) (v : Nat) (s : State) :
    (setCommand d v s).output.damper d = driven s.cfg.strokeTime v (s.output.damper d) := by
  unfold setCommand driven
  split
  · rfl
  · cases d <;> rfl

theorem driven_self (stroke : Nat) {v : Nat} {d : DamperState} (h : d.command = v) : driven stroke v d = d := if_pos h

theorem driven_moves (stroke : Nat) {v : Nat} {d : DamperState} (h : d.command ≠ v) :
    driven stroke v d = { d with command := v, settle := some (secs stroke) } := if_neg h

/-- The dampers and the test of a phase. -/
theorem drivePhase_output (p : PolarityTest) (byp oa : Nat) (s : State) :
    (drivePhase p byp oa s).output.test = some p ∧
    (drivePhase p byp oa s).output.bypass = driven s.cfg.strokeTime byp s.output.bypass ∧
    (drivePhase p byp oa s).output.outdoor = driven s.cfg.strokeTime oa s.output.outdoor := by
  have hbypass := damper_setCommand .bypass byp { s with output := { s.output with test := some p } }
  have hother := setCommand_other .outdoor .bypass oa (setCommand .bypass byp { s with output := { s.output with test := some p } }) nofun
  have houtdoor := damper_setCommand .outdoor oa (setCommand .bypass byp { s with output := { s.output with test := some p } })
  have hkept := setCommand_other .bypass .outdoor byp { s with output := { s.output with test := some p } } nofun
  refine ⟨by simp [drivePhase], hother.trans hbypass, houtdoor.trans ?_⟩
  rw [hkept]
  simp [State.cfg, Output.damper]

/-- DAMPER's sticky flag with an outcome (R144). -/
theorem recordOutcome_sticky (d : Damper) (o : Polarity) (s : State) : (recordOutcome d o s).responder.sticky =
    if o = .fault ∧ s.output.bypass.outcome ≠ .fault ∧ s.output.outdoor.outcome ≠ .fault then
      { s.responder.sticky with damper := true }
    else s.responder.sticky := by
  have hnew : ((s.output.setDamper d { s.output.damper d with outcome := o }).anyDamperFault && !s.output.anyDamperFault) = true ↔
      o = .fault ∧ s.output.bypass.outcome ≠ .fault ∧ s.output.outdoor.outcome ≠ .fault := by
    by_cases hbypass : s.output.bypass.outcome = .fault <;> by_cases houtdoor : s.output.outdoor.outcome = .fault <;> cases d <;>
      simp [Output.anyDamperFault, Output.setDamper, Output.damper, hbypass, houtdoor] <;> exact decide_eq_true_iff
  unfold recordOutcome
  dsimp only
  rw [show (refreshAlarm { s with output := s.output.setDamper d { s.output.damper d with outcome := o } }).output =
    s.output.setDamper d { s.output.damper d with outcome := o } from rfl]
  simp only [hnew]
  split <;> rfl

/-- Out of ECONOMIZE an outcome is only recorded (R21). -/
theorem setOutcome_record {d : Damper} {o : Polarity} (h : d = .bypass ∨ s.engine.applied ≠ .economize) :
    setOutcome d o s = recordOutcome d o s := by
  rw [setOutcome_eq]
  refine if_neg fun h' => ?_
  rcases h with h | h
  · rw [h'.1] at h
    cases h
  · exact h h'.2.2

theorem exec_polarityPhaseEnd_running {p : PolarityTest} (htest : s.output.test = some p) (hl : s.startUp.lifecycle = .commission) :
    exec .polarityPhaseEnd s = .next (phaseEnds p s) := by
  change execPolarityPhaseEnd s = _
  simp [execPolarityPhaseEnd, htest, hl]

theorem phaseEnds_bypassLow {p : PolarityTest} (h : p.phase = .bypassLow) : phaseEnds p s =
    drivePhase { p with phase := .bypassHigh, left := secs s.cfg.strokeTime, bypassA := s.reading .bypFb } 1000 s.cfg.fmin s := by
  simp only [phaseEnds, h]

theorem phaseEnds_bypassHigh {p : PolarityTest} (h : p.phase = .bypassHigh) : phaseEnds p s =
    drivePhase { p with phase := .outdoorLow, left := secs s.cfg.strokeTime } 1000 0
      (recordOutcome .bypass (polarityOf p.bypassA (s.reading .bypFb)) s) := by
  simp only [phaseEnds, h]
  rw [setOutcome_record (.inl rfl)]

theorem phaseEnds_outdoorLow {p : PolarityTest} (h : p.phase = .outdoorLow) : phaseEnds p s =
    drivePhase { p with phase := .outdoorHigh, left := secs s.cfg.strokeTime, outdoorA := s.reading .oaFb } 1000 1000 s := by
  simp only [phaseEnds, h]

/-- The outcome of the outdoor damper is recorded and the test is over. -/
def testOver (o : Polarity) (s : State) : State :=
  { recordOutcome .outdoor o s with output := { (recordOutcome .outdoor o s).output with test := none } }

@[simp] theorem testOver_frame (o : Polarity) (s : State) :
    (testOver o s).output = { s.output with outdoor := { s.output.outdoor with outcome := o }, test := none } ∧
    (testOver o s).startUp = s.startUp ∧ (testOver o s).scanner = s.scanner ∧ (testOver o s).engine = s.engine ∧
    (testOver o s).table = s.table ∧ (testOver o s).allocator = s.allocator ∧ (testOver o s).bus = s.bus ∧
    (testOver o s).counters = s.counters ∧ (testOver o s).responder = (recordOutcome .outdoor o s).responder := by
  simp [testOver, Output.setDamper, Output.damper]

/-- The dampers as the fourth phase leaves them. -/
theorem outdoorHigh_dampers (o : Polarity) (s : State) :
    (setCommand .outdoor s.cfg.fmin (testOver o s)).output.bypass = s.output.bypass ∧
    (setCommand .outdoor s.cfg.fmin (testOver o s)).output.outdoor =
      driven s.cfg.strokeTime s.cfg.fmin { s.output.outdoor with outcome := o } := by
  obtain ⟨houtput, hstartUp, -⟩ := testOver_frame o s
  have hkept : (setCommand .outdoor s.cfg.fmin (testOver o s)).output.bypass = (testOver o s).output.bypass :=
    setCommand_other .outdoor .bypass s.cfg.fmin (testOver o s) nofun
  have hdriven : (setCommand .outdoor s.cfg.fmin (testOver o s)).output.outdoor =
    driven (testOver o s).cfg.strokeTime s.cfg.fmin (testOver o s).output.outdoor := damper_setCommand .outdoor s.cfg.fmin (testOver o s)
  rw [hkept, hdriven, State.cfg, houtput, hstartUp]
  exact ⟨rfl, rfl⟩

theorem phaseEnds_outdoorHigh {p : PolarityTest} (h : p.phase = .outdoorHigh) (happlied : s.engine.applied ≠ .economize) :
    phaseEnds p s = enterListen (setCommand .outdoor s.cfg.fmin (testOver (polarityOf p.outdoorA (s.reading .oaFb)) s)) := by
  simp only [phaseEnds, h]
  rw [setOutcome_record (.inr happlied)]
  rfl

theorem sticky_drivePhase (p : PolarityTest) (byp oa : Nat) (s : State) :
    (drivePhase p byp oa s).responder.sticky = s.responder.sticky := by simp

/-- Settles O39: each phase by its own equation, from the positions in which `safeHeld` has the dampers. -/
theorem polarityTestRunsItsFourPhases : Obligations.PolarityTestRunsItsFourPhases := by
  unfold Obligations.PolarityTestRunsItsFourPhases
  refine ⟨fun p s htest hl hsafe happlied => ?_, fun a b => ?_, fun a b h => ?_, fun s h => ?_⟩
  · obtain ⟨-, -, -, -, hpositions⟩ := hsafe
    obtain ⟨hbypass, houtdoor⟩ := hpositions p htest
    refine ⟨phaseEnds p s, exec_polarityPhaseEnd_running htest hl, fun hp => ?_, fun hp => ?_, fun hp => ?_, fun hp => ?_, by simp, ?_,
      by simp, by simp, by simp, ?_, by simp⟩
    · rw [phaseEnds_bypassLow hp]
      rw [hp] at hbypass houtdoor
      obtain ⟨htest', hbypass', houtdoor'⟩ := drivePhase_output
        { p with phase := .bypassHigh, left := secs s.cfg.strokeTime, bypassA := s.reading .bypFb } 1000 s.cfg.fmin s
      exact ⟨htest', hbypass'.trans (driven_moves _ (by simp [hbypass])), houtdoor'.trans (driven_self _ (by simpa using houtdoor)), by simp⟩
    · rw [phaseEnds_bypassHigh hp]
      rw [hp] at hbypass houtdoor
      obtain ⟨htest', hbypass', houtdoor'⟩ := drivePhase_output { p with phase := .outdoorLow, left := secs s.cfg.strokeTime } 1000 0
        (recordOutcome .bypass (polarityOf p.bypassA (s.reading .bypFb)) s)
      simp only [recordOutcome_frame, Output.setDamper, Output.damper, State.cfg] at hbypass' houtdoor'
      refine ⟨htest', hbypass'.trans (driven_self _ (by simpa using hbypass)), fun hfmin => houtdoor'.trans (driven_moves _ ?_),
        (sticky_drivePhase _ _ _ _).trans (recordOutcome_sticky _ _ _), by simp⟩
      rw [houtdoor]
      simpa using hfmin
    · rw [phaseEnds_outdoorLow hp]
      rw [hp] at hbypass houtdoor
      obtain ⟨htest', hbypass', houtdoor'⟩ := drivePhase_output
        { p with phase := .outdoorHigh, left := secs s.cfg.strokeTime, outdoorA := s.reading .oaFb } 1000 1000 s
      exact ⟨htest', hbypass'.trans (driven_self _ (by simpa using hbypass)), houtdoor'.trans (driven_moves _ (by simp [houtdoor])), by simp⟩
    · rw [phaseEnds_outdoorHigh hp happlied]
      rw [hp] at houtdoor
      obtain ⟨hkept, hdriven⟩ := outdoorHigh_dampers (polarityOf p.outdoorA (s.reading .oaFb)) s
      have hfull : s.output.outdoor.command = 1000 := houtdoor
      refine ⟨by simp, hkept, ?_, ?_, ?_, fun hfmin => ?_, ?_, ?_, ?_⟩
      · simp
      · simpa [Output.damper] using setCommand_command .outdoor s.cfg.fmin _
      · simp
      · have hmoves := hdriven.trans (driven_moves _ fun h => hfmin (h.symm.trans hfull))
        exact congrArg DamperState.settle hmoves
      · simpa using recordOutcome_sticky .outdoor (polarityOf p.outdoorA (s.reading .oaFb)) s
      · simp [enterListen, setLifecycle, refreshAlarm, State.cfg]
      · simp [enterListen, setLifecycle, refreshAlarm, State.cfg]
    · cases hp : p.phase
      · simp [phaseEnds_bypassLow hp]
      · simp [phaseEnds_bypassHigh hp]
      · simp [phaseEnds_outdoorLow hp]
      · simp [phaseEnds_outdoorHigh hp happlied]
    · cases hp : p.phase
      · simp [phaseEnds_bypassLow hp]
      · simp [phaseEnds_bypassHigh hp, Output.setDamper]
      · simp [phaseEnds_outdoorLow hp]
      · simp [phaseEnds_outdoorHigh hp happlied]
  · refine ⟨fun h => by simp [polarityOf, h], fun h => ?_, fun h h' => ?_⟩
    · rw [polarityOf, if_neg (by omega), if_pos h]
    · rw [polarityOf, if_neg (by omega), if_neg (by omega)]
  · rcases h with rfl | rfl
    · rfl
    · cases a <;> rfl
  · change execPolarityPhaseEnd s = _
    rcases h with h | h
    · simp [execPolarityPhaseEnd, h]
    · cases htest : s.output.test <;> simp [execPolarityPhaseEnd, htest, h]

end Sys2Proof.Machine
end


-- ==== Sys2Proof/Proofs/Decision.lean ====
section
/-! SUPPORT. The decision: what its stages set, the judgement of the dampers, and the grants it adopts (spec/01, R2 to R9, R14, R146). -/

namespace Sys2Proof.Machine

variable {s t : State}

/-! ### An expiry and its stages (R2, R147) -/

/-- The state an expiry finds, with the timer restarted. -/
def decisionRestarted (s : State) : State := { s with engine := { s.engine with decisionTimer := some (secs s.cfg.decisionPeriod) } }

theorem decisionExpires_eq (order : DecisionOrder) (s : State) : decisionExpires order s =
    match order with
    | .judgementFirst => decide_ (stagesStart order s)
    | .stagesFirst => applyJudgements (decisionRestarted s) (decide_ (stagesStart order s)) := by
  cases order <;> rfl

theorem stagesStart_eq (order : DecisionOrder) (s : State) : stagesStart order s =
    match order with
    | .judgementFirst => applyJudgements (decisionRestarted s) (decisionRestarted s)
    | .stagesFirst => decisionRestarted s := by
  cases order <;> rfl

/-- What allocations and judgements after the stages leave of them. -/
@[simp] theorem decisionExpires_frame (order : DecisionOrder) (s : State) :
    (decisionExpires order s).engine.regime = (decisionStages (stagesStart order s)).engine.regime ∧
    (decisionExpires order s).engine.candidate = (decisionStages (stagesStart order s)).engine.candidate ∧
    (decisionExpires order s).engine.fallback = (decisionStages (stagesStart order s)).engine.fallback ∧
    (decisionExpires order s).engine.baseSpeed = (decisionStages (stagesStart order s)).engine.baseSpeed ∧
    (decisionExpires order s).engine.speedTarget = (decisionStages (stagesStart order s)).engine.speedTarget ∧
    (decisionExpires order s).engine.reliefRequest = (decisionStages (stagesStart order s)).engine.reliefRequest ∧
    (decisionExpires order s).engine.reliefCap = (decisionStages (stagesStart order s)).engine.reliefCap ∧
    (decisionExpires order s).engine.wfcRequest = (decisionStages (stagesStart order s)).engine.wfcRequest ∧
    (decisionExpires order s).engine.wfcCap = (decisionStages (stagesStart order s)).engine.wfcCap ∧
    (decisionExpires order s).output.wanted = (decisionStages (stagesStart order s)).output.wanted := by
  rw [decisionExpires_eq]
  cases order <;> simp [decide_]

/-- What a decision leaves of the state it finds. -/
@[simp] theorem decisionExpires_kept (order : DecisionOrder) (s : State) :
    (decisionExpires order s).engine.decisionTimer = some (secs s.cfg.decisionPeriod) ∧
    (decisionExpires order s).engine.forceBypass = s.engine.forceBypass ∧ (decisionExpires order s).startUp = s.startUp ∧
    (decisionExpires order s).scanner = s.scanner ∧ (decisionExpires order s).reconciler = s.reconciler ∧
    (decisionExpires order s).table = s.table ∧ (decisionExpires order s).counters = s.counters ∧
    (decisionExpires order s).freeDraws = s.freeDraws ∧ (decisionExpires order s).bus.announceSlot = s.bus.announceSlot ∧
    (decisionExpires order s).bus.replySlots = s.bus.replySlots ∧ (decisionExpires order s).bus.sequence = s.bus.sequence := by
  cases order <;> simp [decisionExpires]

/-- A judgement taken first leaves what the stages read but mode, dampers and stagger. -/
@[simp] theorem stagesStart_kept (order : DecisionOrder) (s : State) :
    (stagesStart order s).table = s.table ∧ (stagesStart order s).allocator = s.allocator ∧
    (stagesStart order s).bus.clash = s.bus.clash ∧ (stagesStart order s).engine.forceBypass = s.engine.forceBypass ∧
    (stagesStart order s).engine.speedTarget = s.engine.speedTarget ∧
    (stagesStart order s).engine.reliefRequest = s.engine.reliefRequest ∧
    (stagesStart order s).engine.wfcRequest = s.engine.wfcRequest := by
  cases order <;> simp [stagesStart]

theorem exec_decision_idle (order : DecisionOrder) (h : s.engine.decisionTimer = none) : exec (.decision order) s = .next s := by
  change execDecision order s = _
  simp [execDecision, h]

/-! ### The requests (R9, R134) and the base speed (R14) -/

/-- The state in which stage 5 reads its conditions. -/
def requestsStart (s : State) : State := stageCandidate (stageRegime (stageAdopt (stageDwell s)))

@[simp] theorem requestsStart_frame (s : State) :
    (requestsStart s).startUp = s.startUp ∧ (requestsStart s).scanner = s.scanner ∧ (requestsStart s).reconciler = s.reconciler ∧
    (requestsStart s).engine.forceBypass = s.engine.forceBypass ∧ (requestsStart s).bus = s.bus ∧
    (requestsStart s).stagger = s.stagger ∧ (requestsStart s).engine.applied = s.engine.applied ∧
    (requestsStart s).engine.speedTarget = s.engine.speedTarget ∧ (requestsStart s).engine.dwell = min 255 (s.engine.dwell + 1) ∧
    (requestsStart s).output.wheel = s.output.wheel ∧
    (requestsStart s).output.outdoor.outcome = s.output.outdoor.outcome := by
  simp [requestsStart, stageCandidate, stageRegime, stageDwell, satInc]

theorem decisionStages_eq (s : State) :
    decisionStages s = stagesTargetSpeed (stageAvailability (stageRequests (requestsStart s))) := rfl

/-- Regime, fallback and candidate stand before stage 5. -/
theorem decisionStages_classes (s : State) :
    (decisionStages s).engine.regime = (requestsStart s).engine.regime ∧
    (decisionStages s).engine.fallback = (requestsStart s).engine.fallback ∧
    (decisionStages s).engine.candidate = (requestsStart s).engine.candidate := by
  simp [decisionStages_eq]

theorem decisionStages_requests (s : State) :
    (decisionStages s).engine.reliefRequest = reliefRequestNow (requestsStart s) ∧
    (decisionStages s).engine.wfcRequest = wfcRequestNow (requestsStart s) ∧
    (decisionStages s).output.wanted = wantedNow (requestsStart s) := by
  simp [decisionStages_eq, stageRequests]

theorem airOf_requestsStart (s : State) : airOf (requestsStart s) = airOf s := airOf_congr (by simp) (by simp)

theorem fallback_requestsStart (s : State) : (requestsStart s).engine.fallback = (airOf s).isNone := by
  have hair : airOf (stageAdopt (stageDwell s)) = airOf s := airOf_congr (by simp) (by simp)
  simp [requestsStart, stageRegime, stageCandidate, hair]

theorem regime_requestsStart (s : State) : (requestsStart s).engine.regime = regimeOf (demandHeat s) (demandCool s) := by
  simp [requestsStart, stageRegime, stageCandidate, demandHeat, demandCool, State.reading]

theorem demandHeat_congr (h : t.scanner = s.scanner) : demandHeat t = demandHeat s := by simp [demandHeat, State.reading, h]

theorem demandCool_congr (h : t.scanner = s.scanner) : demandCool t = demandCool s := by simp [demandCool, State.reading, h]

/-- The conditions of the relief request, as they stand at stage 5 (R6, R9). -/
theorem wantsRelief_requestsStart (s : State) : wantsRelief (requestsStart s) = true ↔
    (requestsStart s).engine.fallback = false ∧ (requestsStart s).engine.candidate = .economize ∧ s.engine.forceBypass = none ∧
    s.output.outdoor.outcome ≠ .fault ∧ s.startUp.lifecycle = .active ∧ s.bus.clash = false := by
  rw [fallback_requestsStart]
  cases hair : airOf s <;> simp [wantsRelief, airOf_requestsStart, hair, eligible, and_assoc]

/-- A base speed is read from regime, air and heat demand (R14). -/
theorem baseSpeedNow_congr (hregime : t.engine.regime = s.engine.regime) (hscanner : t.scanner = s.scanner)
    (hreconciler : t.reconciler = s.reconciler) (hcfg : t.startUp.settings = s.startUp.settings) : baseSpeedNow t = baseSpeedNow s := by
  unfold baseSpeedNow State.cfg
  rw [hregime, airOf_congr hscanner hreconciler, demandHeat_congr hscanner, hcfg]

theorem baseSpeed_decisionStages (s : State) : (decisionStages s).engine.baseSpeed = baseSpeedNow (requestsStart s) := by
  have hspeed (entered : Bool) (u : State) : (stageSpeed entered u).engine.baseSpeed = baseSpeedNow u := by simp [stageSpeed]
  rw [decisionStages_eq, stagesTargetSpeed, hspeed]
  exact baseSpeedNow_congr (by simp [stageAvailability]) (by simp [stageAvailability]) (by simp [stageAvailability])
    (by simp [stageAvailability])

/-- A decision is in fallback without a return average or an outdoor point (R6). -/
theorem airOf_eq_none_iff : airOf s = none ↔
    s.reading .retT = none ∨ s.reading .retW = none ∨ s.reconciler.reference = .invalid := by
  unfold airOf returnEnthalpy Reference.point
  cases s.reading .retT <;> cases s.reading .retW <;> cases s.reconciler.reference <;> simp

/-- The outdoor enthalpy of a decision is that of the reference (R3). -/
theorem ho_of_airOf {a : Air} {p : OutdoorPoint} (hair : airOf s = some a) (hp : p ∈ s.reconciler.reference.point) : a.ho = p.h := by
  unfold airOf at hair
  rw [Option.mem_def.mp hp] at hair
  split at hair
  · rename_i hpoint
    cases hpoint
    cases hair
    rfl
  · cases hair

/-- The outcome of the outdoor damper that the stages read (R147). -/
theorem stagesStart_outcome (order : DecisionOrder) (s : State) : (stagesStart order s).output.outdoor.outcome =
    match order with
    | .judgementFirst => (decisionExpires order s).output.outdoor.outcome
    | .stagesFirst => s.output.outdoor.outcome := by
  rw [decisionExpires_eq]
  cases order
  · simp
  · rfl

/-- The conditions of the relief request, in the terms of an expiry (R6, R9, R147). -/
theorem wantsRelief_decision (order : DecisionOrder) (s : State) : wantsRelief (requestsStart (stagesStart order s)) = true ↔
    (decisionExpires order s).engine.fallback = false ∧ (decisionExpires order s).engine.candidate = .economize ∧
    s.engine.forceBypass = none ∧
    (match order with
     | .judgementFirst => (decisionExpires order s).output.outdoor.outcome
     | .stagesFirst => s.output.outdoor.outcome) ≠ .fault ∧
    s.startUp.lifecycle = .active ∧ s.bus.clash = false := by
  obtain ⟨-, hfallback, hcandidate⟩ := decisionStages_classes (stagesStart order s)
  rw [wantsRelief_requestsStart, stagesStart_outcome]
  simp [hfallback, hcandidate]

theorem demandCool_start (order : DecisionOrder) (s : State) : demandCool (requestsStart (stagesStart order s)) = demandCool s :=
  demandCool_congr (by simp)

theorem airOf_start (order : DecisionOrder) (s : State) : airOf (requestsStart (stagesStart order s)) = airOf s :=
  airOf_congr (by simp) (by simp)

/-- The WFC request of a decision (R6, R9). -/
theorem wfcRequest_decision (order : DecisionOrder) (s : State) : (decisionExpires order s).engine.wfcRequest =
    match airOf s with
    | some a =>
      if (decisionExpires order s).engine.regime = .cooling ∧ a.ho < s.cfg.hOff ∧ s.startUp.lifecycle = .active ∧ s.bus.clash = false
      then demandCool s * s.cfg.lc / 1000 else 0
    | none => 0 := by
  obtain ⟨-, hwfc, -⟩ := decisionStages_requests (stagesStart order s)
  obtain ⟨hregime, -, -⟩ := decisionStages_classes (stagesStart order s)
  simp only [decisionExpires_frame, hwfc, hregime, wfcRequestNow, airOf_start, demandCool_start, wfcRequestOf]
  cases airOf s with
  | none => rfl
  | some a => simp [State.cfg, eligible]

/-- The base speed of a decision (R14). -/
theorem baseSpeed_decision (order : DecisionOrder) (s : State) : (decisionExpires order s).engine.baseSpeed =
    match (decisionExpires order s).engine.regime, airOf s with
    | .heating, _ => max s.cfg.smin (demandHeat s)
    | .cooling, some a => coolingTarget s.cfg.smin s.cfg.sr (a.ho - a.hr - s.cfg.mr)
    | .cooling, none | .neutral, _ => s.cfg.smin := by
  obtain ⟨hregime, -, -⟩ := decisionStages_classes (stagesStart order s)
  have hheat : demandHeat (requestsStart (stagesStart order s)) = demandHeat s := demandHeat_congr (by simp)
  simp only [decisionExpires_frame, baseSpeed_decisionStages, baseSpeedNow, hregime, airOf_start, hheat]
  cases (requestsStart (stagesStart order s)).engine.regime <;> cases airOf s <;> simp [State.cfg, heatingTarget]

/-- Settles O40: each quantity by the stage that sets it, in the state that stage reads. -/
theorem decisionClassifiesAndRequests : Obligations.DecisionClassifiesAndRequests := by
  unfold Obligations.DecisionClassifiesAndRequests
  refine ⟨fun order s hrunning => ?_, fun order s => exec_decision_idle order⟩
  obtain ⟨hregime, hfallback, hcandidate⟩ := decisionStages_classes (stagesStart order s)
  obtain ⟨hrelief, -, hwanted⟩ := decisionStages_requests (stagesStart order s)
  obtain ⟨hreliefCap, hwfcCap⟩ := caps_decisionStages (stagesStart order s)
  have hwants := wantsRelief_decision order s
  have hregimeOf : (decisionExpires order s).engine.regime = regimeOf (demandHeat s) (demandCool s) := by
    have hheat : demandHeat (stagesStart order s) = demandHeat s := demandHeat_congr (by simp)
    have hcool : demandCool (stagesStart order s) = demandCool s := demandCool_congr (by simp)
    simp only [decisionExpires_frame, hregime, regime_requestsStart, hheat, hcool]
  have hwfc := wfcRequest_decision order s
  have hbase := baseSpeed_decision order s
  refine ⟨decisionExpires order s, demandHeat s, demandCool s, exec_decision_running order hrunning, rfl, rfl, by simp, hregimeOf, ?_,
    ?_, ?_, ?_, ?_, fun p hp => ?_, fun hinvalid => ?_, fun hr => ?_, fun hr => ?_, fun hr hf => ?_, fun rt rw p hp hr hrt hrw => ?_,
    by simp, by simp, by simp, by simp, by simp, by simp, by simp, by simp, by simp, by simp⟩
  · rw [decisionExpires_fallback, Option.isNone_iff_eq_none, airOf_eq_none_iff]
  · simp [hreliefCap, reliefCapOf, State.cfg]
  · simp [hwfcCap, State.cfg]
  · by_cases hw : wantsRelief (requestsStart (stagesStart order s)) = true
    · refine Eq.trans ?_ (if_pos (hwants.mp hw)).symm
      simp [hrelief, reliefRequestNow, hw, demandCool_start, reliefRequestOf, wantedFraction, State.cfg]
    · refine Eq.trans ?_ (if_neg (mt hwants.mpr hw)).symm
      simp [hrelief, reliefRequestNow, hw]
  · by_cases hw : wantsRelief (requestsStart (stagesStart order s)) = true
    · refine Eq.trans ?_ (if_pos (hwants.mp hw)).symm
      simp [hwanted, wantedNow, hw, demandCool_start, wantedFraction, State.cfg]
    · refine Eq.trans ?_ (if_neg (mt hwants.mpr hw)).symm
      simp [hwanted, wantedNow, hw, State.cfg]
  · rw [hwfc, decisionExpires_fallback]
    cases hair : airOf s with
    | none => simp
    | some a =>
      simp [ho_of_airOf hair hp]
  · rw [hwfc, airOf_eq_none_iff.mpr (.inr (.inr hinvalid))]
  · rw [hbase, hr]
  · rw [hbase, hr]
  · rw [decisionExpires_fallback, Option.isNone_iff_eq_none] at hf
    rw [hbase, hr, hf]
  · rw [hbase, hr, airOf_eq_some hp hrt hrw]
    rfl

/-! ### The grants adopted (R5, R108) -/

/-- An allocation after a decision leaves the record of a budget whose request has not changed, and else lowers its grant to the new share at most. -/
theorem allocateChanged_get (before : Engine) (b : Budget) (s : State) :
    (s.engine.request b = before.request b → (allocateChanged before s).allocator.get b = s.allocator.get b) ∧
    (s.engine.request b ≠ before.request b →
      (allocateChanged before s).grant b = min (s.grant b) ((allocateChanged before s).allocator.get b).ownShare) ∧
    ((allocateChanged before s).allocator.get b).value = (s.allocator.get b).value := by
  have hwfc (u : State) : (allocate .wfc u).allocator.get .relief = u.allocator.get .relief := allocate_get_other .wfc .relief u nofun
  have hrelief (u : State) : (allocate .relief u).allocator.get .wfc = u.allocator.get .wfc := allocate_get_other .relief .wfc u nofun
  unfold allocateChanged State.grant
  cases b <;> simp only [Engine.request] <;> split <;> split <;> simp_all [allocate_get, State.grant]

/-- Settles O42: the record of a budget after stage 2, and after the allocations that follow the stages. -/
theorem decisionAdoptsTheShares : Obligations.DecisionAdoptsTheShares := by
  unfold Obligations.DecisionAdoptsTheShares
  intro order b s hrunning
  have hstages : (decisionStages (stagesStart order s)).allocator.get b = { s.allocator.get b with
      grant := if s.startUp.lifecycle = .active ∧ s.bus.clash = false then (s.allocator.get b).ownShare else 0 } := by
    rw [decisionStages_get, stageAdopt_get]
    simp [stageDwell, eligible]
  have hrequest : (decisionExpires order s).engine.request b = (decisionStages (stagesStart order s)).engine.request b := by
    cases b <;> simp [Engine.request]
  have hbefore : (stagesStart order s).engine.request b = s.engine.request b := by cases b <;> simp [Engine.request]
  have hexpires : (decisionExpires order s).allocator =
      (allocateChanged (stagesStart order s).engine (decisionStages (stagesStart order s))).allocator := by
    rw [decisionExpires_eq]
    cases order <;> simp [decide_]
  obtain ⟨hkept, hlowered, hvalue⟩ := allocateChanged_get (stagesStart order s).engine b (decisionStages (stagesStart order s))
  unfold State.grant at hlowered
  rw [hbefore, hstages] at hkept hlowered
  rw [hstages] at hvalue
  refine ⟨decisionExpires order s, _, exec_decision_running order hrunning, rfl, ?_, fun h => ?_, fun h => ?_, ?_⟩
  · rw [State.grant, hexpires]
    by_cases h : (decisionStages (stagesStart order s)).engine.request b = s.engine.request b
    · rw [hkept h]
    · rw [hlowered h]
      exact Nat.min_le_left _ _
  · rw [hexpires, hkept (hrequest.symm.trans h)]
  · rw [State.grant, hexpires, hlowered (hrequest ▸ h)]
  · rw [hexpires, hvalue]

/-! ### The judgement of the dampers (R144, R146) -/

/-- A judgement is read from dampers and windows alone. -/
theorem judgement_congr (d : Damper) (houtput : t.output = s.output) (hscanner : t.scanner = s.scanner) : judgement d t = judgement d s := by
  simp [judgement, State.reading, houtput, hscanner]

/-- Mismatch count and outcome after a judgement (R146). -/
def judgedCount (j : Option Bool) (d : DamperState) : Nat × Polarity :=
  match j with
  | none => (d.mismatches, d.outcome)
  | some false => (0, d.outcome)
  | some true => if 3 ≤ d.mismatches + 1 then (0, .fault) else (d.mismatches + 1, d.outcome)

/-- Mismatch count and outcome of a damper. -/
def DamperState.count (d : DamperState) : Nat × Polarity := (d.mismatches, d.outcome)

theorem count_setOutcome (d e : Damper) (o : Polarity) (s : State) : ((setOutcome d o s).output.damper e).count =
    if e = d then ((s.output.damper d).mismatches, o) else (s.output.damper e).count := by
  have hforced (u : State) : ((forcedChange u).output.damper e).count = (u.output.damper e).count := by
    cases e <;> simp [DamperState.count, Output.damper]
  have hrecord : ((recordOutcome d o s).output.damper e).count =
      if e = d then ((s.output.damper d).mismatches, o) else (s.output.damper e).count := by
    cases d <;> cases e <;> simp [DamperState.count, Output.damper, Output.setDamper]
  rw [setOutcome_eq]
  split
  · rw [hforced, hrecord]
  · exact hrecord

theorem count_setMismatches (d e : Damper) (n : Nat) (s : State) : ((setMismatches d n s).output.damper e).count =
    if e = d then (n, (s.output.damper d).outcome) else (s.output.damper e).count := by
  cases d <;> cases e <;> rfl

theorem count_applyJudgement (d e : Damper) (j : Option Bool) (s : State) : ((applyJudgement d j s).output.damper e).count =
    if e = d then judgedCount j (s.output.damper d) else (s.output.damper e).count := by
  unfold applyJudgement judgedCount
  split
  · split
    · rename_i h
      rw [h]
      rfl
    · rfl
  · rw [count_setMismatches]
  · split
    · have hcount : ((setMismatches d 0 s).output.damper d).mismatches = 0 := by cases d <;> rfl
      rw [count_setOutcome, count_setMismatches, hcount]
      split <;> rfl
    · rw [count_setMismatches]

/-- Both judgements, each on its own damper (R146). -/
theorem count_applyJudgements (judged : State) (d : Damper) (s : State) : ((applyJudgements judged s).output.damper d).count =
    judgedCount (judgement d judged) (s.output.damper d) := by
  have hcongr {j : Option Bool} {x y : DamperState} (h : x.count = y.count) : judgedCount j x = judgedCount j y := by
    obtain ⟨hmismatches, houtcome⟩ := Prod.mk.inj h
    unfold judgedCount
    rw [hmismatches, houtcome]
  unfold applyJudgements
  rw [count_applyJudgement]
  cases d
  · rw [if_neg nofun, count_applyJudgement, if_pos rfl]
  · rw [if_pos rfl]
    refine hcongr ?_
    rw [count_applyJudgement, if_neg nofun]

/-- Count and outcome after an expiry are those the judgement of the state it finds gives (R146, R147). -/
theorem count_decisionExpires (order : DecisionOrder) (d : Damper) (s : State) : ((decisionExpires order s).output.damper d).count =
    judgedCount (judgement d s) (s.output.damper d) := by
  have hdecide (u : State) : ((decide_ u).output.damper d).count = (u.output.damper d).count := by
    cases d <;> simp [DamperState.count, Output.damper]
  have hjudgement : judgement d (decisionRestarted s) = judgement d s := judgement_congr d rfl rfl
  cases order
  · change ((decide_ (applyJudgements (decisionRestarted s) (decisionRestarted s))).output.damper d).count = _
    rw [hdecide, count_applyJudgements, hjudgement]
    rfl
  · change ((applyJudgements (decisionRestarted s) (decide_ (decisionRestarted s))).output.damper d).count = _
    rw [count_applyJudgements, hjudgement]
    obtain ⟨hmismatches, houtcome⟩ := Prod.mk.inj (hdecide (decisionRestarted s))
    unfold judgedCount
    rw [hmismatches, houtcome]
    rfl

/-- DAMPER's sticky flag stands wherever a damper is in FAULT that was not, over a judgement (R144). -/
def DamperNoted (s : State) : Prop := s.output.anyDamperFault = true → s.responder.sticky.damper = true

theorem DamperNoted.applyJudgement (d : Damper) (j : Option Bool) (hs : DamperNoted s) : DamperNoted (applyJudgement d j s) := by
  have hmismatches (n : Nat) : DamperNoted (setMismatches d n s) := by
    intro h
    simp only [setMismatches_frame]
    refine hs ?_
    cases d <;> exact h
  have hrecord (u : State) (hu : DamperNoted u) (o : Polarity) : DamperNoted (recordOutcome d o u) := by
    intro _
    rw [recordOutcome_sticky]
    by_cases hfault : u.output.anyDamperFault = true
    · split
      · rfl
      · exact hu hfault
    · rename_i h
      simp only [Output.anyDamperFault, Bool.or_eq_true, decide_eq_true_eq, not_or] at hfault
      by_cases ho : o = .fault
      · rw [if_pos ⟨ho, hfault⟩]
      · exfalso
        obtain ⟨hbypass, houtdoor⟩ := hfault
        revert h
        cases d <;> simp [Output.anyDamperFault, Output.setDamper, hbypass, houtdoor, ho]
  have houtcome (u : State) (hu : DamperNoted u) : DamperNoted (setOutcome d .fault u) := by
    rw [setOutcome_eq]
    split
    · intro h
      have hbefore := hrecord u hu .fault (by simpa [Output.anyDamperFault] using h)
      simpa using hbefore
    · exact hrecord u hu .fault
  unfold Machine.applyJudgement
  split
  · exact hs
  · exact hmismatches 0
  · split
    · exact houtcome _ (hmismatches 0)
    · exact hmismatches _

theorem DamperNoted.decisionExpires (order : DecisionOrder) (hs : DamperNoted s) : DamperNoted (decisionExpires order s) := by
  have hdecide {u : State} (hu : DamperNoted u) : DamperNoted (decide_ u) := fun h => by
    simpa using hu (by simpa [Output.anyDamperFault] using h)
  have hrestarted : DamperNoted (decisionRestarted s) := hs
  cases order
  · exact hdecide ((hrestarted.applyJudgement _ _).applyJudgement _ _)
  · exact ((hdecide hrestarted).applyJudgement _ _).applyJudgement _ _

end Sys2Proof.Machine
end


-- ==== Sys2Proof/Proofs/Stages.lean ====
section
/-! SUPPORT. What a hold test, an allocation or a judgement does to the engine and the stagger: nothing, or ECONOMIZE is forced to BYPASS; and stages 7 and
8 of a decision by their branches (R12 to R17, R19, R21). -/

namespace Sys2Proof.Machine

variable {s t u : State}

/-! ### Nothing, or a forced change (R19, R21, R23) -/

/-- Engine, stagger, INTENT slot and wheel stay. -/
structure Undisturbed (s t : State) : Prop where
  engine : t.engine = s.engine
  stagger : t.stagger = s.stagger
  intentSlot : t.bus.intentSlot = s.bus.intentSlot
  wheel : t.output.wheel = s.output.wheel

/-- The stagger after a cancellation (R125). -/
def Stagger.cancelled (g : Stagger) : Stagger := if g.pending ≠ none then idleStagger else g

theorem Stagger.cancelled_pending (g : Stagger) : g.cancelled.pending = none := by
  unfold Stagger.cancelled
  split
  · rfl
  · simpa using ‹¬ g.pending ≠ none›

theorem cancelPending_stagger (s : State) : (cancelPending s).stagger = s.stagger.cancelled := by
  unfold cancelPending Stagger.cancelled
  cases s.stagger.pending <;> rfl

/-- An applied ECONOMIZE has been forced to BYPASS, and nothing is pending. -/
structure ForcedOut (s t : State) : Prop where
  was : s.engine.applied = .economize
  engine : t.engine = { s.engine with applied := .bypass, target := .bypass, dwell := 0 }
  stagger : t.stagger = s.stagger.cancelled
  wheel : t.output.wheel = wheelAfter .bypass s.output.wheel

theorem Undisturbed.refl (s : State) : Undisturbed s s := ⟨rfl, rfl, rfl, rfl⟩

theorem Undisturbed.trans (h : Undisturbed s t) (h' : Undisturbed t u) : Undisturbed s u :=
  ⟨h'.engine.trans h.engine, h'.stagger.trans h.stagger, h'.intentSlot.trans h.intentSlot, h'.wheel.trans h.wheel⟩

theorem ForcedOut.after (h : Undisturbed s t) (h' : ForcedOut t u) : ForcedOut s u :=
  ⟨h.engine ▸ h'.was, by rw [h'.engine, h.engine], by rw [h'.stagger, h.stagger], by rw [h'.wheel, h.wheel]⟩

theorem ForcedOut.before (h : ForcedOut s t) (h' : Undisturbed t u) : ForcedOut s u :=
  ⟨h.was, by rw [h'.engine, h.engine], by rw [h'.stagger, h.stagger], by rw [h'.wheel, h.wheel]⟩

theorem ForcedOut.pending (h : ForcedOut s t) : t.stagger.pending = none := by rw [h.stagger, Stagger.cancelled_pending]

theorem ForcedOut.applied (h : ForcedOut s t) : t.engine.applied = .bypass := by rw [h.engine]

/-- BYPASS is not forced again. -/
theorem ForcedOut.not_again (h : ForcedOut s t) : ¬ ForcedOut t u := fun h' => by
  have := h'.was
  rw [h.applied] at this
  cases this

theorem forcedOut_forcedChange (h : s.engine.applied = .economize) : ForcedOut s (forcedChange s) :=
  ⟨h, forcedChange_engine s, by simp [forcedChange, cancelPending_stagger], by rw [forcedChange_wheel, if_neg (by simp [h])]⟩

/-- The hold condition is read from lifecycle state, settings, relief request and relief grant (R19). -/
theorem holdCondition_congr (hstartUp : t.startUp = s.startUp) (hrequest : t.engine.reliefRequest = s.engine.reliefRequest)
    (hgrant : t.allocator.relief = s.allocator.relief) : holdCondition t = holdCondition s := by
  unfold holdCondition minShare State.grant State.cfg Allocator.get
  rw [hstartUp, hrequest, hgrant]

/-- A hold test forces a failing ECONOMIZE, or does nothing. -/
theorem holdTest_settles (s : State) : Undisturbed s (holdTest s) ∨ (ForcedOut s (holdTest s) ∧ holdCondition (holdTest s) = false) := by
  rcases holdTest_cases s with h | ⟨happlied, hfails, h⟩
  · rw [h]
    exact .inl (.refl s)
  · rw [h]
    exact .inr ⟨forcedOut_forcedChange happlied, (holdCondition_congr (by simp) (by simp) (by simp)).trans hfails⟩

/-- An allocation does nothing to the engine, or forces an ECONOMIZE that fails its hold condition. -/
theorem allocate_settles (b : Budget) (s : State) :
    Undisturbed s (allocate b s) ∨ (ForcedOut s (allocate b s) ∧ holdCondition (allocate b s) = false) := by
  cases b
  case wfc =>
    obtain ⟨hengine, hstagger, -, hbus, -, -, -, houtput⟩ := allocate_wfc_frame s
    exact .inl ⟨hengine, hstagger, by rw [hbus], by rw [houtput]⟩
  case relief =>
    unfold allocate reduceGrant
    dsimp only
    split
    · unfold handOnGrant
      dsimp only
      generalize hdriven : driveDampers _ = v
      have hsame : Undisturbed s v := by
        subst hdriven
        exact ⟨by simp, by simp, by simp, by simp⟩
      have hfan : Undisturbed (holdTest v) (evaluateFan (holdTest v)) := ⟨by simp, by simp, by simp, by simp⟩
      rcases holdTest_settles v with h | ⟨h, hfails⟩
      · exact .inl ((hsame.trans h).trans hfan)
      · exact .inr ⟨(ForcedOut.after hsame h).before hfan,
          (holdCondition_congr (by simp) (by simp) (by simp)).trans hfails⟩
    · exact .inl ⟨rfl, rfl, rfl, rfl⟩

theorem allocateChanged_settles (before : Engine) (s : State) : Undisturbed s (allocateChanged before s) ∨
    (ForcedOut s (allocateChanged before s) ∧ holdCondition (allocateChanged before s) = false) := by
  have hwfc (u : State) : holdCondition (allocate .wfc u) = holdCondition u := by
    obtain ⟨hengine, -, -, -, -, -, hrelief, -⟩ := allocate_wfc_frame u
    exact holdCondition_congr (by simp) (by rw [hengine]) hrelief
  have hlast (u : State) : Undisturbed u (allocate .wfc u) := by
    obtain ⟨hengine, hstagger, -, hbus, -, -, -, houtput⟩ := allocate_wfc_frame u
    exact ⟨hengine, hstagger, by rw [hbus], by rw [houtput]⟩
  unfold allocateChanged
  dsimp only
  split
  · split
    · exact .inl (.refl s)
    · exact .inl (hlast s)
  · rcases allocate_settles .relief s with h | ⟨h, hfails⟩
    · split
      · exact .inl h
      · exact .inl (h.trans (hlast _))
    · split
      · exact .inr ⟨h, hfails⟩
      · exact .inr ⟨h.before (hlast _), by rw [hwfc, hfails]⟩

theorem recordOutcome_undisturbed (d : Damper) (o : Polarity) (s : State) : Undisturbed s (recordOutcome d o s) :=
  ⟨by simp, by simp, by simp, by cases d <;> simp [Output.setDamper]⟩

theorem setMismatches_undisturbed (d : Damper) (n : Nat) (s : State) : Undisturbed s (setMismatches d n s) :=
  ⟨by simp, by simp, by simp, by simp⟩

/-- A judgement does nothing to the engine, or makes the outdoor damper FAULT in ECONOMIZE. -/
theorem applyJudgement_settles (d : Damper) (j : Option Bool) (s : State) : Undisturbed s (applyJudgement d j s) ∨
    (ForcedOut s (applyJudgement d j s) ∧ d = .outdoor ∧ j = some true ∧ (applyJudgement d j s).output.outdoor.outcome = .fault) := by
  unfold applyJudgement
  split
  · exact .inl (.refl s)
  · exact .inl (setMismatches_undisturbed d 0 s)
  · split
    · rw [setOutcome_eq]
      have hrecord := (setMismatches_undisturbed d 0 s).trans (recordOutcome_undisturbed d .fault (setMismatches d 0 s))
      split
      · rename_i h
        obtain ⟨rfl, -, happlied⟩ := h
        refine .inr ⟨.after hrecord (forcedOut_forcedChange ?_), rfl, rfl, ?_⟩
        · rw [hrecord.engine]
          simpa using happlied
        · simp [Output.setDamper]
      · exact .inl hrecord
    · exact .inl (setMismatches_undisturbed d _ s)

theorem applyJudgements_settles (judged s : State) : Undisturbed s (applyJudgements judged s) ∨
    (ForcedOut s (applyJudgements judged s) ∧ judgement .outdoor judged = some true ∧
      (applyJudgements judged s).output.outdoor.outcome = .fault) := by
  have hbypass : Undisturbed s (applyJudgement .bypass (judgement .bypass judged) s) := by
    rcases applyJudgement_settles .bypass (judgement .bypass judged) s with h | ⟨-, h, -⟩
    · exact h
    · cases h
  unfold applyJudgements
  rcases applyJudgement_settles .outdoor (judgement .outdoor judged) (applyJudgement .bypass (judgement .bypass judged) s) with
    h | ⟨h, -, hj, houtcome⟩
  · exact .inl (hbypass.trans h)
  · exact .inr ⟨.after hbypass h, hj, houtcome⟩

/-- After the stages the engine stands, or ECONOMIZE has been forced to BYPASS. -/
theorem decisionExpires_settles (order : DecisionOrder) (s : State) :
    Undisturbed (decisionStages (stagesStart order s)) (decisionExpires order s) ∨
    ForcedOut (decisionStages (stagesStart order s)) (decisionExpires order s) := by
  have hdecide := allocateChanged_settles (stagesStart order s).engine (decisionStages (stagesStart order s))
  rw [decisionExpires_eq]
  cases order
  · exact hdecide.imp_right And.left
  · dsimp only
    rcases applyJudgements_settles (decisionRestarted s) (decide_ (stagesStart .stagesFirst s)) with h | ⟨h, -⟩
    · exact hdecide.imp (·.trans h) fun h' => h'.1.before h
    · rcases hdecide with h' | ⟨h', -⟩
      · exact .inr (.after h' h)
      · exact absurd h h'.not_again

/-- Before the stages: nothing, or ECONOMIZE forced to BYPASS by a judgement taken first. -/
theorem stagesStart_settles (order : DecisionOrder) (s : State) :
    Undisturbed (decisionRestarted s) (stagesStart order s) ∨ ForcedOut (decisionRestarted s) (stagesStart order s) := by
  rw [stagesStart_eq]
  cases order
  · exact (applyJudgements_settles _ _).imp_right And.left
  · exact .inl (.refl _)

/-! ### Stage 7 (R12, R13) -/

theorem applyMode_engine (m : Mode) (s : State) : (applyMode m s).engine = { s.engine with applied := m } := by
  unfold applyMode
  split
  · rename_i h
    rw [← h]
  · simp

/-- A mode applied at once leaves the stagger and the bus. -/
theorem stageTarget_cases (s : State) :
    (s.engine.target.matchesMode s.engine.applied = true ∧ stageTarget s = cancelPending s) ∨
    (s.engine.target.matchesMode s.engine.applied = false ∧ s.engine.dwell < s.cfg.dwell ∧ stageTarget s = s) ∨
    (s.engine.target.matchesMode s.engine.applied = false ∧ s.cfg.dwell ≤ s.engine.dwell ∧
      ∃ k, heavyKind s.output.wheel s.engine.target = some k ∧ stageTarget s = handHeavy k s) ∨
    (s.engine.target.matchesMode s.engine.applied = false ∧ s.cfg.dwell ≤ s.engine.dwell ∧
      heavyKind s.output.wheel s.engine.target = none ∧
      (stageTarget s).engine = { s.engine with applied := s.engine.target.mode, dwell := 0 } ∧
      (stageTarget s).stagger.pending = none) := by
  unfold stageTarget
  split
  · exact .inl ⟨‹_›, rfl⟩
  · rename_i hmatches
    rw [Bool.not_eq_true] at hmatches
    split
    · exact .inr (.inl ⟨hmatches, ‹_›, rfl⟩)
    · rename_i hdwell
      rw [Nat.not_lt] at hdwell
      split
      · exact .inr (.inr (.inl ⟨hmatches, hdwell, _, ‹_›, rfl⟩))
      · exact .inr (.inr (.inr ⟨hmatches, hdwell, ‹_›, by simp [applyMode_engine], by simp⟩))

/-- Stage 7 leaves the engine, or applies the target with the count 0. -/
theorem stageTarget_engine (s : State) : (stageTarget s).engine = s.engine ∨
    (s.engine.target.matchesMode s.engine.applied = false ∧ s.engine.target ≠ .economize ∧
      (stageTarget s).engine = { s.engine with applied := s.engine.target.mode, dwell := 0 }) := by
  rcases stageTarget_cases s with ⟨-, h⟩ | ⟨-, -, h⟩ | ⟨-, -, k, -, h⟩ | ⟨hmatches, -, hkind, h, -⟩
  · exact .inl (by rw [h]; simp)
  · exact .inl (by rw [h])
  · exact .inl (by rw [h]; simp)
  · refine .inr ⟨hmatches, fun htarget => ?_, h⟩
    rw [htarget] at hkind
    cases hkind

/-! ### Stages 5 to 8 as a whole -/

/-- The state the hold test of stage 5 tests: requests, caps and wanted fraction set, the dampers driven. -/
def requested (s : State) : State :=
  driveDampers
    { s with
      engine :=
        { s.engine with
          reliefRequest := reliefRequestNow s
          wfcRequest := wfcRequestNow s
          reliefCap := reliefCapOf s.cfg.fmin s.cfg.qs
          wfcCap := s.cfg.lc }
      output := { s.output with wanted := wantedNow s } }

theorem stageRequests_eq (s : State) : stageRequests s = holdTest (requested s) := rfl

/-- The state stage 7 acts on. -/
def targetStart (s : State) : State := stageAvailability (stageRequests (requestsStart s))

theorem decisionStages_targetStart (s : State) : decisionStages s = stagesTargetSpeed (targetStart s) := rfl

/-- Stage 5 leaves a mode other than ECONOMIZE, with its count. -/
theorem targetStart_of_ne (h : s.engine.applied ≠ .economize) :
    (targetStart s).engine.applied = s.engine.applied ∧ (targetStart s).engine.dwell = min 255 (s.engine.dwell + 1) ∧
    (targetStart s).stagger = s.stagger ∧ (targetStart s).output.wheel = s.output.wheel ∧ (targetStart s).bus = s.bus := by
  have htest : holdTest (requested (requestsStart s)) = requested (requestsStart s) := by
    rcases holdTest_cases (requested (requestsStart s)) with h' | ⟨happlied, -⟩
    · exact h'
    · exact absurd (by simpa [requested] using happlied) h
  rw [targetStart, stageRequests_eq, htest]
  simp [stageAvailability, requested]

/-- The engine after stage 8, from the engine that stage 7 leaves. -/
theorem stagesTargetSpeed_engine (s : State) : ∃ entered : Bool,
    entered = (!s.engine.applied.inPair && (stageTarget s).engine.applied.inPair) ∧
    (stagesTargetSpeed s).engine = speedRules s.cfg (s.reading .exhT) (s.reconciler.reference.point.map OutdoorPoint.t) entered
      { (stageTarget s).engine with baseSpeed := baseSpeedNow (stageTarget s) } := by
  refine ⟨_, rfl, ?_⟩
  simp [stagesTargetSpeed, stageSpeed, setSpeed, State.cfg, State.reading]

/-- Stage 8 leaves the pair (R15). -/
theorem stagesTargetSpeed_inPair (s : State) :
    (stagesTargetSpeed s).engine.applied.inPair = (stageTarget s).engine.applied.inPair ∧
    (stagesTargetSpeed s).engine.dwell = (stageTarget s).engine.dwell ∧
    ((stagesTargetSpeed s).engine.applied = .economize ↔ (stageTarget s).engine.applied = .economize) ∧
    ((stagesTargetSpeed s).engine.applied = .bypass ↔ (stageTarget s).engine.applied = .bypass) := by
  obtain ⟨entered, -, h⟩ := stagesTargetSpeed_engine s
  have hpair : (stagesTargetSpeed s).engine.applied.inPair = (stageTarget s).engine.applied.inPair := by rw [h]; simp
  have heconomize : (stagesTargetSpeed s).engine.applied = .economize ↔ (stageTarget s).engine.applied = .economize := by
    rw [h, speedRules_economize_iff]
  refine ⟨hpair, by rw [h]; simp, heconomize, ?_⟩
  revert hpair heconomize
  cases (stagesTargetSpeed s).engine.applied <;> cases (stageTarget s).engine.applied <;> simp [Mode.inPair]

/-! ### A judgement and ECONOMIZE (R21) -/

/-- A decision does not enter ECONOMIZE at once: it is a heavy change (R13). -/
theorem applied_decisionStages (h : s.engine.applied ≠ .economize) : (decisionStages s).engine.applied ≠ .economize := by
  obtain ⟨happlied, -⟩ := targetStart_of_ne h
  obtain ⟨-, -, heconomize, -⟩ := stagesTargetSpeed_inPair (targetStart s)
  rw [decisionStages_targetStart, Ne, heconomize]
  rcases stageTarget_engine (targetStart s) with h' | ⟨-, htarget, h'⟩
  · rw [h', happlied]
    exact h
  · rw [h']
    cases htarget' : (targetStart s).engine.target
    case economize => exact absurd htarget' htarget
    all_goals nofun

/-- An outdoor damper that a decision makes FAULT leaves no ECONOMIZE (R21, R147). -/
theorem applied_of_outdoor_fault (order : DecisionOrder) (h : (decisionExpires order s).output.outdoor.outcome = .fault)
    (hbefore : s.output.outdoor.outcome ≠ .fault) : (decisionExpires order s).engine.applied ≠ .economize := by
  cases order
  case judgementFirst =>
    have hstart : (stagesStart .judgementFirst s).engine.applied ≠ .economize := by
      rw [stagesStart_applied]
      split
      · nofun
      · rename_i hnot
        intro happlied
        exact hnot ⟨rfl, happlied, fun hsame => hbefore (hsame.symm.trans h)⟩
    rcases decisionExpires_settles .judgementFirst s with h' | h'
    · rw [h'.engine]
      exact applied_decisionStages hstart
    · rw [h'.applied]
      nofun
  case stagesFirst =>
    rw [decisionExpires_eq] at h ⊢
    dsimp only at h ⊢
    have hdecided : (decide_ (stagesStart .stagesFirst s)).output.outdoor.outcome = s.output.outdoor.outcome := by
      simp [stagesStart]
    unfold applyJudgements at h ⊢
    rcases applyJudgement_cases .outdoor (judgement .outdoor (decisionRestarted s))
      (applyJudgement .bypass (judgement .bypass (decisionRestarted s)) (decide_ (stagesStart .stagesFirst s))) with
      ⟨-, hfault⟩ | ⟨-, hsame⟩
    · obtain ⟨-, happlied⟩ := setOutcome_outdoor_fault (setMismatches .outdoor 0
        (applyJudgement .bypass (judgement .bypass (decisionRestarted s)) (decide_ (stagesStart .stagesFirst s))))
      rw [hfault, happlied]
      split
      · nofun
      · assumption
    · obtain ⟨-, houtcome⟩ := applyJudgement_bypass (judgement .bypass (decisionRestarted s)) (decide_ (stagesStart .stagesFirst s))
      exact absurd ((hdecided.symm.trans houtcome.symm).trans ((hsame .outdoor).symm.trans h)) hbefore

/-- The judgement of a damper that moves (R145, R146). -/
theorem judgement_eq {d : Damper} {v fb : Int} (hv : s.reading (feedbackOf d) = some v) (hsettle : (s.output.damper d).settle = none)
    (hfb : (s.output.damper d).outcome = .normal ∧ fb = v ∨ (s.output.damper d).outcome = .reversed ∧ fb = 1000 - v) :
    judgement d s = some (decide (200 < (((s.output.damper d).command : Int) - fb).natAbs)) := by
  unfold judgement
  rw [if_neg (by simp [hsettle]), hv]
  rcases hfb with ⟨h, rfl⟩ | ⟨h, rfl⟩ <;> rw [h] <;> rfl

theorem judgement_eq_none {d : Damper} (h : (s.output.damper d).settle.isSome = true ∨ (s.output.damper d).outcome = .untested ∨
    (s.output.damper d).outcome = .fault ∨ s.reading (feedbackOf d) = none) : judgement d s = none := by
  unfold judgement
  rcases h with h | h | h | h
  · rw [if_pos h]
  · simp [h, feedbackReading]
  · simp [h, feedbackReading]
  · rw [h]
    cases (s.output.damper d).outcome <;> simp [feedbackReading]

theorem judgedCount_mismatch (d : DamperState) : judgedCount (some true) d =
    if 3 ≤ d.mismatches + 1 then (0, .fault) else (d.mismatches + 1, d.outcome) := rfl

/-- Settles O45: count and outcome by the judgement of the state the expiry finds, the sticky flag as an invariant of a judgement. -/
theorem decisionJudgesTheDampers : Obligations.DecisionJudgesTheDampers := by
  unfold Obligations.DecisionJudgesTheDampers
  intro order d s hrunning
  have hcount := count_decisionExpires order d s
  refine ⟨decisionExpires order s, exec_decision_running order hrunning, fun h => ?_, fun v fb hv hsettle hfb => ?_⟩
  · rw [judgement_eq_none h] at hcount
    exact Prod.mk.inj hcount
  · rw [judgement_eq hv hsettle hfb] at hcount
    refine ⟨fun hnear => ?_, fun hfar hfew => ?_, fun hfar hthird => ?_⟩
    · rw [decide_eq_false (by omega)] at hcount
      exact Prod.mk.inj hcount
    · rw [decide_eq_true hfar, judgedCount_mismatch, if_neg (by omega)] at hcount
      exact Prod.mk.inj hcount
    · rw [decide_eq_true hfar, judgedCount_mismatch, if_pos (by omega)] at hcount
      obtain ⟨hmismatches, houtcome⟩ := Prod.mk.inj hcount
      refine ⟨hmismatches, houtcome, fun hnone => ?_, fun houtdoor => ?_⟩
      · refine DamperNoted.decisionExpires order (fun h => absurd h (by simp [hnone])) ?_
        cases d
        · simp [Output.anyDamperFault, show (decisionExpires order s).output.bypass.outcome = .fault from houtcome]
        · simp [Output.anyDamperFault, show (decisionExpires order s).output.outdoor.outcome = .fault from houtcome]
      · subst houtdoor
        refine applied_of_outdoor_fault order houtcome ?_
        change (s.output.damper .outdoor).outcome ≠ .fault
        rcases hfb with ⟨h, -⟩ | ⟨h, -⟩ <;> rw [h] <;> nofun

/-! ### Stage 8 (R14 to R17) -/

/-- In HEATING the rules of the pair act on the speed target that stood, or on the base speed after an entry (R15). -/
theorem speedRules_heating {e : Engine} (c : Settings) (exh outTemp : Option Int) (entered : Bool) (hpair : e.applied.inPair = true)
    (hregime : e.regime = .heating) : speedRules c exh outTemp entered e =
      match exh with
      | some x => frostStep c x { e with speedTarget := if entered = true then e.baseSpeed else e.speedTarget }
      | none => frostCap outTemp { e with speedTarget := if entered = true then e.baseSpeed else e.speedTarget } := by
  cases e
  dsimp only at hpair hregime
  subst hregime
  unfold speedRules
  dsimp only
  rw [hpair]
  cases entered <;> cases exh <;> rfl

theorem speedRules_otherwise {e : Engine} (c : Settings) (exh outTemp : Option Int) (entered : Bool) (hpair : e.applied.inPair = true)
    (hregime : e.regime ≠ .heating) : speedRules c exh outTemp entered e = { e with applied := .recover, speedTarget := e.baseSpeed } := by
  unfold speedRules
  rw [hpair]
  cases hr : e.regime
  case heating => exact absurd hr hregime
  all_goals rfl

/-- The table of R16 and the cap of R17, by the member and the speed target that they act on. -/
theorem speedRules_pair {e : Engine} (c : Settings) (exh : Option Int) (reference : Option OutdoorPoint) (entered : Bool)
    (hpair : e.applied.inPair = true) {speed : Nat} (hspeed : speed = if entered = true then e.baseSpeed else e.speedTarget)
    {r : Engine} (hr : r = speedRules c exh (reference.map OutdoorPoint.t) entered e) :
    (e.regime ≠ .heating → r.applied = .recover ∧ r.speedTarget = e.baseSpeed) ∧
    (e.regime = .heating → ∀ x ∈ exh,
      (x ≤ c.tf → r.applied = .frost ∧ r.speedTarget = max c.smin (speed * 3 / 4)) ∧
      (c.tf < x → x < c.tf + c.frostBand → r.applied = e.applied ∧ r.speedTarget = min speed e.baseSpeed) ∧
      (c.tf < x → c.tf + c.frostBand ≤ x → e.applied = .recover → r.applied = .recover ∧ r.speedTarget = e.baseSpeed) ∧
      (c.tf < x → c.tf + c.frostBand ≤ x → e.applied = .frost →
        r.speedTarget = min e.baseSpeed (speed + 100) ∧ (r.speedTarget = e.baseSpeed → r.applied = .recover) ∧
        (r.speedTarget ≠ e.baseSpeed → r.applied = .frost))) ∧
    (e.regime = .heating → exh = none →
      ((∀ p ∈ reference, p.t ≤ -50) → r.speedTarget = min e.baseSpeed 500 ∧ (500 < e.baseSpeed → r.applied = .frost) ∧
        (e.baseSpeed ≤ 500 → r.applied = .recover)) ∧
      (∀ p ∈ reference, -50 < p.t → r.speedTarget = e.baseSpeed ∧ r.applied = .recover)) := by
  refine ⟨fun hregime => ?_, fun hregime x hx => ?_, fun hregime hnone => ?_⟩
  · rw [hr, speedRules_otherwise c _ _ _ hpair hregime]
    exact ⟨rfl, rfl⟩
  · rw [speedRules_heating c _ _ _ hpair hregime, Option.mem_def.mp hx, ← hspeed] at hr
    dsimp only at hr
    unfold frostStep at hr
    refine ⟨fun hcold => ?_, fun hwarm hband => ?_, fun hwarm hover hrecover => ?_, fun hwarm hover hfrost => ?_⟩
    · rw [if_pos hcold] at hr
      rw [hr]
      exact ⟨rfl, rfl⟩
    · rw [if_neg (by omega), if_pos hband] at hr
      rw [hr]
      exact ⟨rfl, rfl⟩
    · rw [if_neg (by omega), if_neg (by omega), if_pos hrecover] at hr
      rw [hr]
      exact ⟨hrecover, rfl⟩
    · rw [if_neg (by omega), if_neg (by omega), if_neg (by simp [hfrost])] at hr
      rw [hr]
      exact ⟨rfl, fun h => if_pos h, fun h => (if_neg h).trans hfrost⟩
  · rw [speedRules_heating c _ _ _ hpair hregime, hnone] at hr
    dsimp only at hr
    unfold frostCap at hr
    refine ⟨fun hcold => ?_, fun p hp hwarm => ?_⟩
    · rw [if_pos (by cases reference <;> simp_all)] at hr
      rw [hr]
      exact ⟨rfl, fun h => if_pos h, fun h => if_neg (Nat.not_lt.mpr h)⟩
    · rw [if_neg (by rw [Option.mem_def.mp hp]; simpa using hwarm)] at hr
      rw [hr]
      exact ⟨rfl, rfl⟩

/-- A recovery pair that a decision leaves: the member and speed target stage 8 acted on, and the count (R15). -/
structure PairLeft (order : DecisionOrder) (s : State) (e : Engine) (entered : Bool) : Prop where
  engine : (decisionExpires order s).engine =
    speedRules s.cfg (s.reading .exhT) (s.reconciler.reference.point.map OutdoorPoint.t) entered e
  pair : e.applied.inPair = true
  member : e.applied = if s.engine.applied.inPair = true then s.engine.applied else .recover
  speed : (if entered = true then e.baseSpeed else e.speedTarget) =
    if s.engine.applied.inPair = true then s.engine.speedTarget else (decisionExpires order s).engine.baseSpeed
  dwell : e.dwell = if s.engine.applied.inPair = true then min 255 (s.engine.dwell + 1) else 0

/-- Stage 5 neither enters nor leaves the pair: it can only force ECONOMIZE to BYPASS (R19). -/
theorem targetStart_inPair (s : State) : (targetStart s).engine.applied.inPair = s.engine.applied.inPair := by
  have hrequested : (requested (requestsStart s)).engine.applied = s.engine.applied := by simp [requested]
  change (holdTest (requested (requestsStart s))).engine.applied.inPair = _
  rcases holdTest_cases (requested (requestsStart s)) with h | ⟨happlied, -, h⟩
  · rw [h, hrequested]
  · rw [h, forcedChange_engine, ← hrequested, happlied]
    rfl

theorem targetStart_speedTarget (s : State) : (targetStart s).engine.speedTarget = s.engine.speedTarget := by
  simp [targetStart, stageAvailability]

/-- Outside ECONOMIZE nothing is forced before the stages. -/
theorem stagesStart_of_pair (order : DecisionOrder) (h : s.engine.applied.inPair = true) :
    Undisturbed (decisionRestarted s) (stagesStart order s) := by
  rcases stagesStart_settles order s with h' | h'
  · exact h'
  · rw [show s.engine.applied = .economize from h'.was] at h
    cases h

theorem stagesStart_inPair (order : DecisionOrder) (s : State) :
    (stagesStart order s).engine.applied.inPair = s.engine.applied.inPair := by
  rcases stagesStart_settles order s with h | h
  · rw [h.engine]
    rfl
  · rw [h.applied, show s.engine.applied = .economize from h.was]
    rfl

/-- A pair applied at stage 7 to a state outside the pair is RECOVER just entered (R13, R15). -/
theorem stageTarget_inPair (h : (stageTarget s).engine.applied.inPair = true) :
    (s.engine.applied.inPair = true → (stageTarget s).engine = s.engine) ∧
    (s.engine.applied.inPair = false → (stageTarget s).engine = { s.engine with applied := .recover, dwell := 0 }) := by
  rcases stageTarget_engine s with h' | ⟨hmatches, -, h'⟩
  · rw [h'] at h
    exact ⟨fun _ => h', fun hout => absurd (h.symm.trans hout) nofun⟩
  · rw [h'] at h
    cases htarget : s.engine.target
    case recover =>
      rw [htarget] at hmatches h'
      exact ⟨fun hin => absurd (hin.symm.trans hmatches) nofun, fun _ => h'⟩
    all_goals
      rw [htarget] at h
      cases h

theorem pairLeft (order : DecisionOrder) (h : (decisionExpires order s).engine.applied.inPair = true) :
    ∃ e entered, PairLeft order s e entered := by
  have hstages : (decisionExpires order s).engine = (stagesTargetSpeed (targetStart (stagesStart order s))).engine := by
    rcases decisionExpires_settles order s with h' | h'
    · exact h'.engine
    · rw [h'.applied] at h
      cases h
  obtain ⟨entered, hentered, hengine⟩ := stagesTargetSpeed_engine (targetStart (stagesStart order s))
  obtain ⟨hpair, -⟩ := stagesTargetSpeed_inPair (targetStart (stagesStart order s))
  rw [hstages, hpair] at h
  have hstart : (targetStart (stagesStart order s)).engine.applied.inPair = s.engine.applied.inPair := by
    rw [targetStart_inPair, stagesStart_inPair]
  have hspeed : (targetStart (stagesStart order s)).engine.speedTarget = s.engine.speedTarget := by simp [targetStart_speedTarget]
  have hrules : (decisionExpires order s).engine =
      speedRules s.cfg (s.reading .exhT) (s.reconciler.reference.point.map OutdoorPoint.t) entered
        { (stageTarget (targetStart (stagesStart order s))).engine with
          baseSpeed := baseSpeedNow (stageTarget (targetStart (stagesStart order s))) } := by
    rw [hstages, hengine]
    simp [State.cfg, State.reading, targetStart, stageAvailability]
  have hbase : (decisionExpires order s).engine.baseSpeed = baseSpeedNow (stageTarget (targetStart (stagesStart order s))) := by
    rw [hrules]
    simp
  obtain ⟨hin, hout⟩ := stageTarget_inPair h
  refine ⟨_, entered, hrules, h, ?_, ?_, ?_⟩ <;> cases hs : s.engine.applied.inPair <;> rw [hs] at hstart
  case refine_1.false => simp [hout hstart]
  case refine_2.false =>
    rw [hbase]
    simp [hentered, hstart, h]
  case refine_3.false => simp [hout hstart]
  all_goals
    have hkept := stagesStart_of_pair order hs
    have hne : (stagesStart order s).engine.applied ≠ .economize := fun h' => by
      rw [show s.engine.applied = .economize from (congrArg Engine.applied hkept.engine).symm.trans h'] at hs
      cases hs
    obtain ⟨happlied, hdwell, -⟩ := targetStart_of_ne hne
  case refine_1.true => simp [hin hstart, happlied, hkept.engine, decisionRestarted]
  case refine_2.true => simp [hentered, hstart, hin hstart, hspeed]
  case refine_3.true => simp [hin hstart, hdwell, hkept.engine, decisionRestarted]

/-- Settles O44: the pair a decision leaves, by the table it was given; outside the pair the speed target is the base speed. -/
theorem frostRulesSetSpeedAndMember : Obligations.FrostRulesSetSpeedAndMember := by
  unfold Obligations.FrostRulesSetSpeedAndMember
  intro order s hrunning
  refine ⟨decisionExpires order s, _, _, exec_decision_running order hrunning, rfl, rfl, fun hout => ?_, fun hpair => ?_⟩
  · obtain ⟨entered, -, hengine⟩ := stagesTargetSpeed_engine (targetStart (stagesStart order s))
    obtain ⟨hpair, -⟩ := stagesTargetSpeed_inPair (targetStart (stagesStart order s))
    have hstages : (decisionStages (stagesStart order s)).engine.applied.inPair = false := by
      rcases decisionExpires_settles order s with h | h
      · rw [← h.engine]
        exact hout
      · rw [h.was]
        rfl
    have hnot : (stageTarget (targetStart (stagesStart order s))).engine.applied.inPair = false := hpair.symm.trans hstages
    simp only [decisionExpires_frame, decisionStages_targetStart, hengine]
    simp [speedRules, hnot]
  · obtain ⟨e, entered, hleft⟩ := pairLeft order hpair
    obtain ⟨hother, htable, hcap⟩ := speedRules_pair s.cfg (s.reading .exhT) s.reconciler.reference.point entered hleft.pair
      hleft.speed.symm hleft.engine
    have hregime : (decisionExpires order s).engine.regime = e.regime := by rw [hleft.engine]; simp
    have hbase : (decisionExpires order s).engine.baseSpeed = e.baseSpeed := by rw [hleft.engine]; simp
    have hdwell : (decisionExpires order s).engine.dwell = e.dwell := by rw [hleft.engine]; simp
    rw [hregime, hbase, hdwell, ← hleft.member]
    rw [hbase] at htable
    exact ⟨hleft.dwell, hother, htable, hcap⟩

end Sys2Proof.Machine
end


-- ==== Sys2Proof/Proofs/Target.lean ====
section
/-! SUPPORT. The target of a decision and what stage 7 does with it (R4, R10 to R13, R19). -/

namespace Sys2Proof.Machine

variable {s t : State}

/-! ### The state stage 7 acts on -/

/-- The mode, the count, the wheel and the stagger stage 7 finds, where stage 5 forces nothing. -/
structure TargetStart (s v : State) : Prop where
  applied : v.engine.applied = s.engine.applied
  dwell : v.engine.dwell = min 255 (s.engine.dwell + 1)
  stagger : v.stagger = s.stagger
  wheel : v.output.wheel = s.output.wheel

/-- The grant in use after stage 2 (R5). -/
def adoptedGrant (s : State) : Nat :=
  if s.startUp.lifecycle = .active ∧ s.bus.clash = false then s.allocator.relief.ownShare else 0

theorem targetStart_grant (s : State) : (targetStart s).grant .relief = adoptedGrant s ∧
    (stageRequests (requestsStart s)).grant .relief = adoptedGrant s ∧ (requested (requestsStart s)).grant .relief = adoptedGrant s := by
  have hstart : (requestsStart s).grant .relief = adoptedGrant s := by
    change ((stageAdopt (stageDwell s)).allocator.get .relief).grant = _
    rw [stageAdopt_get]
    by_cases hl : s.startUp.lifecycle = .active <;> simp [adoptedGrant, stageDwell, eligible, Allocator.get, hl]
  refine ⟨?_, ?_, ?_⟩ <;> rw [← hstart] <;> simp [targetStart, stageAvailability, requested, State.grant]

theorem targetStart_minShare (s : State) : minShare (targetStart s) = minShare (decisionStages s) ∧
    minShare (stageRequests (requestsStart s)) = minShare (decisionStages s) ∧
    minShare (requested (requestsStart s)) = minShare (decisionStages s) := by
  refine ⟨?_, ?_, ?_⟩ <;> simp [minShare, decisionStages_eq, targetStart, stageAvailability, stageRequests_eq, State.cfg]

theorem holdCondition_requested (s : State) : holdCondition (requested (requestsStart s)) = true ↔
    minShare (decisionStages s) ≤ adoptedGrant s := by
  obtain ⟨-, -, hgrant⟩ := targetStart_grant s
  obtain ⟨-, -, hshare⟩ := targetStart_minShare s
  have hpos : 1 ≤ minShare (decisionStages s) := Nat.le_max_left _ _
  have hl : (requested (requestsStart s)).startUp = s.startUp := by simp [requested]
  rw [holdCondition, hgrant, hshare, hl]
  simp only [Bool.and_eq_true, decide_eq_true_eq, and_iff_right_iff_imp]
  intro h
  by_contra hactive
  have : adoptedGrant s = 0 := if_neg fun h' => hactive h'.1
  omega

/-- Stage 5 forces nothing where ECONOMIZE is not applied, or where its grant suffices (R19). -/
theorem targetStart_held (h : s.engine.applied ≠ .economize ∨ minShare (decisionStages s) ≤ adoptedGrant s) :
    TargetStart s (targetStart s) := by
  have htest : holdTest (requested (requestsStart s)) = requested (requestsStart s) := by
    rcases holdTest_cases (requested (requestsStart s)) with h' | ⟨happlied, hfails, -⟩
    · exact h'
    · rcases h with h | h
      · exact absurd (by simpa [requested] using happlied) h
      · rw [(holdCondition_requested s).mpr h] at hfails
        cases hfails
  refine ⟨?_, ?_, ?_, ?_⟩ <;> rw [targetStart, stageRequests_eq, htest] <;> simp [stageAvailability, requested]

/-- Stage 5 forces an ECONOMIZE whose grant does not suffice (R19). -/
theorem targetStart_failed (h : s.engine.applied = .economize) (hfails : adoptedGrant s < minShare (decisionStages s)) :
    (targetStart s).engine.applied = .bypass ∧ (targetStart s).engine.dwell = 0 ∧ (targetStart s).stagger.pending = none := by
  have hcondition : holdCondition (requested (requestsStart s)) = false := by
    rw [← Bool.not_eq_true, holdCondition_requested]
    omega
  have happlied : (requested (requestsStart s)).engine.applied = .economize := by simpa [requested] using h
  have htest : holdTest (requested (requestsStart s)) = forcedChange (requested (requestsStart s)) := by
    simp [holdTest, happlied, hcondition]
  have hforced := forcedOut_forcedChange happlied
  rw [targetStart, stageRequests_eq, htest]
  refine ⟨hforced.applied, ?_, hforced.pending⟩
  change (forcedChange _).engine.dwell = 0
  rw [hforced.engine]

theorem targetStart_stalled (s : State) : (targetStart s).output.wheel = .stalled ↔ s.output.wheel = .stalled := by
  have hrequested : (requested (requestsStart s)).output.wheel = s.output.wheel := by simp [requested]
  change (holdTest (requested (requestsStart s))).output.wheel = .stalled ↔ _
  rw [← hrequested]
  rcases holdTest_cases (requested (requestsStart s)) with h | ⟨happlied, -, h⟩
  · rw [h]
  · rw [h, (forcedOut_forcedChange happlied).wheel]
    cases (requested (requestsStart s)).output.wheel <;> simp [wheelAfter]

/-! ### The target (R10, R11) -/

/-- RECOVER can take the place of an ECONOMIZE that is not available (R10). -/
def recovers (s : State) (applied : Mode) : Bool :=
  match airOf s with
  | some a => coolingRecovers s.cfg applied a
  | none => false

theorem recovers_iff (s : State) (applied : Mode) : recovers s applied = true ↔
    ∃ rt ∈ s.reading .retT, ∃ rw ∈ s.reading .retW, ∃ p ∈ s.reconciler.reference.point,
      enthalpy rt rw + s.cfg.mr - (if applied.inPair = true then (s.cfg.hb : Int) else 0) ≤ p.h := by
  unfold recovers airOf returnEnthalpy
  cases s.reading .retT <;> cases s.reading .retW <;> cases s.reconciler.reference.point <;> simp [coolingRecovers]

/-- The target of a decision, in the terms of the state its stages start from. -/
theorem target_decision (s : State) : (targetStart s).engine.target =
    if s.engine.forceBypass.isSome = true then .bypass
    else if (requestsStart s).engine.candidate = .economize ∧ economizeAvailable (stageRequests (requestsStart s)) = true then .economize
    else if ((requestsStart s).engine.candidate = .recover ∨
        ((requestsStart s).engine.candidate = .economize ∧ recovers s s.engine.applied = true)) ∧ s.output.wheel ≠ .stalled then .recover
    else .bypass := by
  have hpair : (stageRequests (requestsStart s)).engine.applied.inPair = s.engine.applied.inPair := targetStart_inPair s
  have hwheel : (stageRequests (requestsStart s)).output.wheel = .stalled ↔ s.output.wheel = .stalled := targetStart_stalled s
  have hair : airOf (stageRequests (requestsStart s)) = airOf s := airOf_congr (by simp) (by simp)
  have hwithout : withoutEconomize (stageRequests (requestsStart s)) = if recovers s s.engine.applied = true then .recover else .bypass := by
    unfold withoutEconomize recovers
    rw [hair]
    cases airOf s with
    | none => rfl
    | some a => simp [coolingRecovers, hpair, State.cfg]
  change targetNow (stageRequests (requestsStart s)) = _
  unfold targetNow
  simp only [stageRequests_frame, requestsStart_frame, hwithout, hwheel]
  cases s.engine.forceBypass.isSome
  · cases (requestsStart s).engine.candidate <;> cases economizeAvailable (stageRequests (requestsStart s)) <;>
      cases recovers s s.engine.applied <;> by_cases hstalled : s.output.wheel = .stalled <;> simp [hstalled]
  · rfl

theorem available_iff (s : State) : economizeAvailable (stageRequests (requestsStart s)) = true ↔
    s.startUp.lifecycle = .active ∧ minShare (decisionStages s) ≤ adoptedGrant s ∧ s.output.outdoor.outcome ≠ .fault := by
  obtain ⟨-, hgrant, -⟩ := targetStart_grant s
  obtain ⟨-, hshare, -⟩ := targetStart_minShare s
  simp only [economizeAvailable, hgrant, hshare, Bool.and_eq_true, decide_eq_true_eq]
  simp only [stageRequests_frame, requestsStart_frame]
  tauto

/-! ### Stage 7 and 8 (R12, R13) -/

/-- A heavy change is handed to the stagger, unless it is pending already (R13, R117, R124). -/
theorem handHeavy_stagger (k : ChangeKind) (s : State) :
    (∀ p ∈ s.stagger.pending, p.kind = k → handHeavy k s = s) ∧
    (s.stagger.pending.any (fun p => decide (p.kind = k)) = false →
      (handHeavy k s).stagger = { idleStagger with
        pending := some {
          kind := k, key := (s.stagger.pending.map Pending.key).getD (ownKey s), phase := .queued, resendUsed := false } } ∧
      (handHeavy k s).bus.intentSlot = some (intentFrame s k)) := by
  have hplace (f : Frame) (u : State) : (placeIntent f u).bus.intentSlot = some f := by
    unfold placeIntent
    rcases beginFrame_cases { u with bus := { u.bus with intentSlot := some f, onAir := displaced .intent u.bus.onAir } } with
      h | ⟨slot, f', -, -, -, -, h⟩ <;> rw [h]
  unfold handHeavy
  cases hp : s.stagger.pending with
  | none => exact ⟨nofun, fun _ => ⟨by simp [startPending, hp], by simp [startPending, hplace]⟩⟩
  | some p =>
    refine ⟨fun p' hp' hkind => ?_, fun hother => ?_⟩
    · cases hp'
      exact if_pos hkind
    · have hne : p.kind ≠ k := by simpa using hother
      simp only [if_neg hne]
      exact ⟨by simp [startPending, hp], by simp [startPending, hplace]⟩

/-- The engine after stages 7 and 8 where stage 7 leaves it. -/
theorem stages_of_engine (h : (stageTarget s).engine = s.engine) :
    (stagesTargetSpeed s).engine.dwell = s.engine.dwell ∧ (stagesTargetSpeed s).engine.applied.inPair = s.engine.applied.inPair ∧
    ((stagesTargetSpeed s).engine.applied = .economize ↔ s.engine.applied = .economize) ∧
    ((stagesTargetSpeed s).engine.applied = .bypass ↔ s.engine.applied = .bypass) := by
  obtain ⟨hpair, hdwell, heconomize, hbypass⟩ := stagesTargetSpeed_inPair s
  rw [h] at hpair hdwell heconomize hbypass
  exact ⟨hdwell, hpair, heconomize, hbypass⟩

theorem stages_stagger (s : State) : (stagesTargetSpeed s).stagger = (stageTarget s).stagger ∧
    (stagesTargetSpeed s).bus = (stageTarget s).bus := by
  simp [stagesTargetSpeed]

/-- A target that is applied: the pending transition is cancelled (R12). -/
theorem stages_same (h : s.engine.target.matchesMode s.engine.applied = true) :
    (stageTarget s).engine = s.engine ∧ (stagesTargetSpeed s).stagger.pending = none := by
  obtain ⟨hstagger, -⟩ := stages_stagger s
  rcases stageTarget_cases s with ⟨-, h'⟩ | ⟨hm, -⟩ | ⟨hm, -⟩ | ⟨hm, -⟩
  · rw [hstagger, h']
    simp
  all_goals exact absurd (h.symm.trans hm) nofun

/-- Dwell holds a change (R12). -/
theorem stages_dwell (h : s.engine.target.matchesMode s.engine.applied = false) (hdwell : s.engine.dwell < s.cfg.dwell) :
    (stageTarget s).engine = s.engine ∧ (stagesTargetSpeed s).stagger = s.stagger := by
  obtain ⟨hstagger, -⟩ := stages_stagger s
  rcases stageTarget_cases s with ⟨hm, -⟩ | ⟨-, -, h'⟩ | ⟨-, hd, -⟩ | ⟨-, hd, -⟩
  · exact absurd (hm.symm.trans h) nofun
  · rw [hstagger, h']
    exact ⟨rfl, rfl⟩
  all_goals omega

/-- A heavy change (R13). -/
theorem stages_heavy {k : ChangeKind} (h : s.engine.target.matchesMode s.engine.applied = false) (hdwell : s.cfg.dwell ≤ s.engine.dwell)
    (hk : heavyKind s.output.wheel s.engine.target = some k) : stageTarget s = handHeavy k s := by
  rcases stageTarget_cases s with ⟨hm, -⟩ | ⟨-, hd, -⟩ | ⟨-, -, k', hk', h'⟩ | ⟨-, -, hnone, -⟩
  · exact absurd (hm.symm.trans h) nofun
  · omega
  · rw [hk] at hk'
    cases hk'
    exact h'
  · rw [hk] at hnone
    cases hnone

/-- Any other change is applied at once (R13). -/
theorem stages_light (h : s.engine.target.matchesMode s.engine.applied = false) (hdwell : s.cfg.dwell ≤ s.engine.dwell)
    (hk : heavyKind s.output.wheel s.engine.target = none) :
    (stagesTargetSpeed s).engine.applied.inPair = s.engine.target.mode.inPair ∧ (stagesTargetSpeed s).engine.dwell = 0 ∧
    (stagesTargetSpeed s).engine.applied ≠ .economize ∧ (stagesTargetSpeed s).stagger.pending = none := by
  obtain ⟨hstagger, -⟩ := stages_stagger s
  obtain ⟨hpair, hdwell', heconomize, -⟩ := stagesTargetSpeed_inPair s
  rcases stageTarget_cases s with ⟨hm, -⟩ | ⟨-, hd, -⟩ | ⟨-, -, k', hk', -⟩ | ⟨-, -, -, hengine, hpending⟩
  · exact absurd (hm.symm.trans h) nofun
  · omega
  · rw [hk] at hk'
    cases hk'
  · rw [hpair, hdwell', Ne, heconomize, hstagger, hengine]
    refine ⟨rfl, rfl, ?_, hpending⟩
    cases htarget : s.engine.target
    case economize =>
      rw [htarget] at hk
      cases hk
    all_goals nofun

/-! ### The state the stages start from, as a judgement taken first leaves it (R147) -/

/-- A judgement taken first has forced ECONOMIZE to BYPASS. -/
def judgedOut (order : DecisionOrder) (s : State) : Bool :=
  decide (order = .judgementFirst ∧ s.engine.applied = .economize ∧
    (decisionExpires order s).output.outdoor.outcome ≠ s.output.outdoor.outcome)

/-- Mode, wheel, stagger and count that the stages start from. -/
theorem stagesStart_found (order : DecisionOrder) (s : State) :
    (stagesStart order s).engine.applied = (if judgedOut order s = true then .bypass else s.engine.applied) ∧
    (stagesStart order s).output.wheel =
      (if judgedOut order s = true ∧ s.output.wheel ≠ .stalled then .stopped else s.output.wheel) ∧
    (stagesStart order s).stagger = (if judgedOut order s = true ∧ s.stagger.pending ≠ none then idleStagger else s.stagger) ∧
    min 255 ((stagesStart order s).engine.dwell + 1) = (if judgedOut order s = true then 1 else min 255 (s.engine.dwell + 1)) := by
  have happlied : (stagesStart order s).engine.applied = if judgedOut order s = true then .bypass else s.engine.applied := by
    rw [stagesStart_applied]
    simp [judgedOut]
  refine ⟨happlied, ?_⟩
  have heconomize (h : judgedOut order s = true) : s.engine.applied = .economize := by
    simp only [judgedOut, decide_eq_true_eq] at h
    exact h.2.1
  rcases stagesStart_settles order s with h | h
  · have hnot : judgedOut order s = false := by
      rw [← Bool.not_eq_true]
      intro hjudged
      have hsame : (stagesStart order s).engine.applied = s.engine.applied := by rw [h.engine]; rfl
      rw [hsame, if_pos hjudged, heconomize hjudged] at happlied
      cases happlied
    rw [hnot, h.wheel, h.stagger, h.engine]
    simp [decisionRestarted]
  · have hjudged : judgedOut order s = true := by
      by_contra hnot
      rw [if_neg hnot, h.applied, show s.engine.applied = .economize from h.was] at happlied
      cases happlied
    rw [hjudged, h.wheel, h.stagger, h.engine]
    refine ⟨?_, ?_, rfl⟩
    · change wheelAfter .bypass s.output.wheel = _
      cases s.output.wheel <;> simp [wheelAfter]
    · change s.stagger.cancelled = _
      simp [Stagger.cancelled]

/-! ### A decision that finds another mode than ECONOMIZE -/

/-- What stage 7 does stands after the decision. -/
theorem decision_elsewhere (order : DecisionOrder) (h : (stagesStart order s).engine.applied ≠ .economize) :
    Undisturbed (stagesTargetSpeed (targetStart (stagesStart order s))) (decisionExpires order s) ∧
    (decisionExpires order s).engine.applied ≠ .economize ∧
    (decisionExpires order s).engine.target = (targetStart (stagesStart order s)).engine.target := by
  have hstays : Undisturbed (stagesTargetSpeed (targetStart (stagesStart order s))) (decisionExpires order s) := by
    rcases decisionExpires_settles order s with h' | h'
    · exact h'
    · exact absurd h'.was (applied_decisionStages h)
  refine ⟨hstays, ?_, ?_⟩
  · rw [hstays.engine]
    exact applied_decisionStages h
  · rw [hstays.engine]
    simp

/-! ### A decision that finds ECONOMIZE -/

/-- Unless a judgement makes the outdoor damper FAULT, the decision ends with its allocations (R21). -/
theorem decide_undisturbed (order : DecisionOrder)
    (h : (decisionExpires order s).output.outdoor.outcome = s.output.outdoor.outcome) :
    Undisturbed (decide_ (stagesStart order s)) (decisionExpires order s) := by
  rw [decisionExpires_eq] at h ⊢
  cases order
  · exact .refl _
  · rcases applyJudgements_settles (decisionRestarted s) (decide_ (stagesStart .stagesFirst s)) with h' | ⟨-, hj, hfault⟩
    · exact h'
    · have hbefore : s.output.outdoor.outcome ≠ .fault := fun h' => by
        rw [judgement_of_fault (d := .outdoor) (s := decisionRestarted s) h'] at hj
        cases hj
      exact absurd (h.symm.trans hfault) hbefore

/-- After the stages ECONOMIZE is applied only within its condition (R19). -/
theorem economizeHeld_decide (s : State) : economizeHeld (decide_ s) := by
  have hstages : economizeHeld (decisionStages s) := by
    have hstart : economizeHeld (targetStart s) := economizeHeld_holdTest (requested (requestsStart s))
    refine economizeHeld_congr hstart (fun h => ?_) (by simp [decisionStages_targetStart]) (by simp [decisionStages_targetStart])
      (by simp [decisionStages_targetStart]) (by simp [decisionStages_targetStart, State.grant])
    by_contra hne
    obtain ⟨-, -, heconomize, -⟩ := stagesTargetSpeed_inPair (targetStart s)
    rw [decisionStages_targetStart, heconomize] at h
    rcases stageTarget_engine (targetStart s) with h' | ⟨-, htarget, h'⟩
    · rw [h'] at h
      exact hne h
    · rw [h'] at h
      cases htarget' : (targetStart s).engine.target
      case economize => exact htarget htarget'
      all_goals
        rw [htarget'] at h
        cases h
  unfold decide_ allocateChanged
  dsimp only
  split <;> split
  · exact hstages
  · exact economizeHeld_allocate _ hstages
  · exact economizeHeld_allocate _ hstages
  · exact economizeHeld_allocate _ (economizeHeld_allocate _ hstages)

/-- The allocations of a decision force an ECONOMIZE exactly when they leave too small a grant (R19, R108). -/
theorem decide_of_economize (hw : (decisionStages s).engine.applied = .economize) (hactive : s.startUp.lifecycle = .active) :
    ((decide_ s).grant .relief < minShare (decisionStages s) → ForcedOut (decisionStages s) (decide_ s)) ∧
    (minShare (decisionStages s) ≤ (decide_ s).grant .relief → Undisturbed (decisionStages s) (decide_ s)) := by
  have hshare : minShare (decide_ s) = minShare (decisionStages s) := by simp [minShare, State.cfg, decide_]
  rcases allocateChanged_settles s.engine (decisionStages s) with h | ⟨h, hfails⟩
  · refine ⟨fun hless => ?_, fun _ => h⟩
    have happlied : (decide_ s).engine.applied = .economize := (congrArg Engine.applied h.engine).trans hw
    have := (economizeHeld_decide s happlied).2
    omega
  · refine ⟨fun _ => h, fun hless => ?_⟩
    change holdCondition (decide_ s) = false at hfails
    simp [holdCondition, hshare, hactive] at hfails
    omega

theorem active_of_adopted (h : minShare t ≤ adoptedGrant s) : s.startUp.lifecycle = .active := by
  have hpos : 1 ≤ minShare t := Nat.le_max_left _ _
  by_contra hnot
  have : adoptedGrant s = 0 := if_neg fun h' => hnot h'.1
  omega

/-- The grant after a decision, of its allocations. -/
theorem grant_decisionExpires (order : DecisionOrder) (s : State) :
    (decisionExpires order s).grant .relief = (decide_ (stagesStart order s)).grant .relief := by
  rw [decisionExpires_eq]
  cases order <;> simp [State.grant]

/-! ### The statement -/

theorem heavyKind_eq (w : Wheel) (target : Target) : heavyKind w target =
    if target = .economize then some .econOpen else if target = .recover ∧ w = .stopped then some .wheelStart else none := by
  cases target <;> cases w <;> rfl

theorem matchesMode_iff (target : Target) (m : Mode) : target.matchesMode m = true ↔
    (target = .bypass ∧ m = .bypass) ∨ (target = .economize ∧ m = .economize) ∨ (target = .recover ∧ (m = .recover ∨ m = .frost)) := by
  cases target <;> cases m <;> simp [Target.matchesMode, Mode.inPair]

/-- The target of an expiry. -/
theorem target_decisionExpires (order : DecisionOrder) (s : State) : (targetStart (stagesStart order s)).engine.target =
    if s.engine.forceBypass.isSome = true then .bypass
    else if (decisionExpires order s).engine.candidate = .economize ∧
        economizeAvailable (stageRequests (requestsStart (stagesStart order s))) = true then .economize
    else if ((decisionExpires order s).engine.candidate = .recover ∨ ((decisionExpires order s).engine.candidate = .economize ∧
        recovers s (stagesStart order s).engine.applied = true)) ∧ s.output.wheel ≠ .stalled then .recover
    else .bypass := by
  obtain ⟨-, -, hcandidate⟩ := decisionStages_classes (stagesStart order s)
  have hstalled : (stagesStart order s).output.wheel ≠ .stalled ↔ s.output.wheel ≠ .stalled := by
    obtain ⟨-, hwheel, -⟩ := stagesStart_found order s
    rw [hwheel]
    split
    · rename_i h
      simp [h.2]
    · rfl
  have hrecovers (m : Mode) : recovers (stagesStart order s) m = recovers s m := by
    unfold recovers
    rw [airOf_congr (t := stagesStart order s) (s := s) (by simp) (by simp)]
    simp [State.cfg]
  rw [target_decision, hrecovers]
  simp only [stagesStart_kept, decisionExpires_frame, hcandidate, hstalled]

/-- The dwell the stages compare with, and the address and heights of an INTENT, are those of the station. -/
theorem targetStart_startUp (order : DecisionOrder) (s : State) : (targetStart (stagesStart order s)).startUp = s.startUp := by
  simp [targetStart, stageAvailability]

/-- A heavy change handed over by a decision, to a stagger that holds none of its kind (R13, R117). -/
theorem decision_hands {k : ChangeKind} {v : State} (hv : v.startUp = s.startUp)
    (hheavy : stageTarget v = handHeavy k v) (hstays : Undisturbed (stagesTargetSpeed v) t) :
    (∀ p ∈ v.stagger.pending, p.kind = k → t.stagger = v.stagger) ∧
    (v.stagger.pending.any (fun p => decide (p.kind = k)) = false →
      t.stagger = { idleStagger with
        pending := some {
          kind := k, key := (v.stagger.pending.map Pending.key).getD (ownKey s), phase := .queued, resendUsed := false } } ∧
      t.bus.intentSlot = some (buildFrame .intent s.startUp.address (intentBody k s.cfg.riserGroup s.cfg.height))) := by
  obtain ⟨hstagger, hbus⟩ := stages_stagger v
  obtain ⟨hsame, hnew⟩ := handHeavy_stagger k v
  have hkey : ownKey v = ownKey s := by simp [ownKey, State.cfg, hv]
  have hframe : intentFrame v k = intentFrame s k := by simp [intentFrame, State.cfg, hv]
  rw [hstays.stagger, hstays.intentSlot, hstagger, hbus, hheavy]
  rw [hkey, hframe] at hnew
  exact ⟨fun p hp hkind => by rw [hsame p hp hkind], hnew⟩

/-- A pending WHEEL_START after a decision that hands one over is that of before, if one was pending (R13). -/
theorem decision_hands_wheelStart {v : State} (hheavy : stageTarget v = handHeavy .wheelStart v)
    (hstays : Undisturbed (stagesTargetSpeed v) t) : ∃ p, t.stagger.pending = some p ∧ p.kind = .wheelStart ∧
      ∀ p' ∈ v.stagger.pending, p'.kind = .wheelStart → p = p' := by
  obtain ⟨hstagger, -⟩ := stages_stagger v
  obtain ⟨hsame, hnew⟩ := handHeavy_stagger .wheelStart v
  rw [hstays.stagger, hstagger, hheavy]
  cases hany : v.stagger.pending.any (fun p => decide (p.kind = .wheelStart))
  · refine ⟨_, by rw [(hnew hany).1], rfl, fun p' hp' hkind => ?_⟩
    rw [Option.mem_def.mp hp'] at hany
    simp [hkind] at hany
  · obtain ⟨p, hp, hkind⟩ : ∃ p, v.stagger.pending = some p ∧ p.kind = .wheelStart := by
      cases hp : v.stagger.pending with
      | none => simp [hp] at hany
      | some p => exact ⟨p, rfl, by simpa [hp] using hany⟩
    refine ⟨p, by rw [hsame p hp hkind, hp], hkind, fun p' hp' _ => ?_⟩
    rw [hp] at hp'
    exact Option.some.inj hp'

/-- Settles O43: the witnesses are what the stages find, and each clause is a branch of stage 7 carried past stage 8 and the allocations. -/
theorem decisionActsOnItsTarget : Obligations.DecisionActsOnItsTarget := by
  unfold Obligations.DecisionActsOnItsTarget
  intro order s hrunning hdwell
  obtain ⟨hfound, hwheel, hstagger, hcount⟩ := stagesStart_found order s
  have hshare : minShare (decisionStages (stagesStart order s)) =
      max 1 (s.cfg.minUseful * (decisionExpires order s).engine.reliefRequest / 100) := by
    simp [minShare, minUsefulShare, State.cfg]
  have hadopted : adoptedGrant (stagesStart order s) =
      if s.startUp.lifecycle = .active ∧ s.bus.clash = false then s.allocator.relief.ownShare else 0 := by simp [adoptedGrant]
  have hstart := targetStart_startUp order s
  have hcfg : (targetStart (stagesStart order s)).cfg.dwell = s.cfg.dwell := by simp [State.cfg, hstart]
  refine ⟨decisionExpires order s, judgedOut order s, (stagesStart order s).engine.applied, (stagesStart order s).output.wheel,
    (stagesStart order s).stagger, min 255 ((stagesStart order s).engine.dwell + 1), minShare (decisionStages (stagesStart order s)),
    adoptedGrant (stagesStart order s), exec_decision_running order hrunning, by simp [judgedOut], hfound, hwheel, hstagger, hcount,
    hshare, hadopted, economizeAvailable (stageRequests (requestsStart (stagesStart order s))),
    recovers s (stagesStart order s).engine.applied, (targetStart (stagesStart order s)).engine.target,
    (targetStart (stagesStart order s)).engine.target.matchesMode (stagesStart order s).engine.applied,
    heavyKind (stagesStart order s).output.wheel (targetStart (stagesStart order s)).engine.target, ?_, recovers_iff s _,
    target_decisionExpires order s, matchesMode_iff _ _, heavyKind_eq _ _, fun hne => ?elsewhere, fun heconomize houtcome => ?economize⟩
  · rw [available_iff, stagesStart_outcome]
    simp only [stagesStart_frame] <;> rfl
  case elsewhere =>
    obtain ⟨hstays, hnot, htarget⟩ := decision_elsewhere order hne
    obtain ⟨happlied, hn, hg, hw⟩ := targetStart_held (.inl hne)
    rw [← happlied, ← hn, ← hg, ← hw]
    refine ⟨htarget, hnot, fun hsame => ?_, fun hother hfew => ?_, fun hother hmany k hk => ?_, fun hother hmany hlight => ?_⟩
    · obtain ⟨hengine, hpending⟩ := stages_same hsame
      obtain ⟨hd, hpair, -, -⟩ := stages_of_engine hengine
      exact ⟨by rw [hstays.stagger, hpending], by rw [hstays.engine, hd], by rw [hstays.engine, hpair]⟩
    · obtain ⟨hengine, hkept⟩ := stages_dwell hother (hcfg ▸ hfew)
      obtain ⟨hd, hpair, -, -⟩ := stages_of_engine hengine
      exact ⟨by rw [hstays.stagger, hkept], by rw [hstays.engine, hd], by rw [hstays.engine, hpair]⟩
    · have hheavy := stages_heavy hother (hcfg ▸ hmany) hk
      obtain ⟨hd, hpair, -, -⟩ := stages_of_engine (s := targetStart (stagesStart order s)) (by rw [hheavy]; simp)
      obtain ⟨hsame, hnew⟩ := decision_hands hstart hheavy hstays
      exact ⟨by rw [hstays.engine, hd], by rw [hstays.engine, hpair], hsame, hnew⟩
    · obtain ⟨hpair, hd, -, hpending⟩ := stages_light hother (hcfg ▸ hmany) hlight
      exact ⟨by rw [hstays.stagger, hpending], by rw [hstays.engine, hd], by rw [hstays.engine, hpair]⟩
  case economize =>
    have hlast := decide_undisturbed order houtcome
    have hexit (h : (decisionStages (stagesStart order s)).engine.applied ≠ .economize) :
        Undisturbed (decisionStages (stagesStart order s)) (decisionExpires order s) := by
      rcases decisionExpires_settles order s with h' | h'
      · exact h'
      · exact absurd h'.was h
    have hnotJudged : judgedOut order s = false := by
      rw [← Bool.not_eq_true]
      intro hjudged
      rw [hfound, if_pos hjudged] at heconomize
      cases heconomize
    have hunjudged : (stagesStart order s).stagger = s.stagger := by simpa [hnotJudged] using hstagger
    have htarget : (decisionStages (stagesStart order s)).engine.target = (targetStart (stagesStart order s)).engine.target := by
      simp [decisionStages_targetStart]
    refine ⟨fun hless => ?_, fun henough hother hmany hlight => ?_, fun henough hcases => ?_⟩
    · obtain ⟨happlied, hzero, hnone⟩ := targetStart_failed heconomize hless
      obtain ⟨hengine, hpending⟩ : (stageTarget (targetStart (stagesStart order s))).engine =
          (targetStart (stagesStart order s)).engine ∧ (decisionStages (stagesStart order s)).stagger.pending = none := by
        cases hmatches : (targetStart (stagesStart order s)).engine.target.matchesMode (targetStart (stagesStart order s)).engine.applied
        · obtain ⟨hengine, hkept⟩ := stages_dwell hmatches (by rw [hcfg, hzero]; exact hdwell)
          exact ⟨hengine, (congrArg Stagger.pending hkept).trans hnone⟩
        · exact stages_same hmatches
      obtain ⟨hd, -, -, hbypass⟩ := stages_of_engine hengine
      have hw : (decisionStages (stagesStart order s)).engine.applied = .bypass := hbypass.mpr happlied
      have hstays := hexit (by rw [hw]; nofun)
      rw [hstays.engine, hstays.stagger]
      exact ⟨hw, hd.trans hzero, htarget, hpending⟩
    · obtain ⟨happlied, hn, -, hw⟩ := targetStart_held (.inr henough)
      rw [← happlied] at hother
      rw [← hn, ← hcfg] at hmany
      rw [← hw] at hlight
      obtain ⟨hpair, hd, hne, hpending⟩ := stages_light hother hmany hlight
      have hstays := hexit hne
      rw [hstays.engine, hstays.stagger]
      exact ⟨hne, hpair, hd, htarget, hpending⟩
    · obtain ⟨happlied, hn, hg, hw⟩ := targetStart_held (.inr henough)
      rw [← happlied, ← hn, ← hcfg, ← hw] at hcases
      have hengine : (stageTarget (targetStart (stagesStart order s))).engine = (targetStart (stagesStart order s)).engine := by
        rcases stageTarget_cases (targetStart (stagesStart order s)) with ⟨-, h⟩ | ⟨-, -, h⟩ | ⟨-, -, k, -, h⟩ | ⟨hm, hd, hnone, -⟩
        · rw [h]; simp
        · rw [h]
        · rw [h]; simp
        · rcases hcases with h | h | h
          · exact absurd (h.symm.trans hm) nofun
          · omega
          · exact absurd hnone h
      obtain ⟨hd, -, heconomize', -⟩ := stages_of_engine hengine
      have hstages : (decisionStages (stagesStart order s)).engine.applied = .economize := heconomize'.mpr (happlied.trans heconomize)
      obtain ⟨hforced, hstays⟩ := decide_of_economize hstages (active_of_adopted henough)
      rw [grant_decisionExpires]
      refine ⟨fun hless => ?_, fun hgrant => ?_⟩
      · have hout := (hforced hless).before hlast
        exact ⟨hout.applied, by rw [hout.engine], by rw [hout.engine], hout.pending⟩
      · have hkept := (hstays hgrant).trans hlast
        rw [hkept.engine, hkept.stagger, ← happlied, ← hn, ← hcfg]
        refine ⟨hstages, htarget, hd, fun hsame => (stages_same hsame).2, fun hother hfew => ?_, fun hother hmany => ?_⟩
        · exact ((stages_dwell hother hfew).2.trans hg).trans hunjudged
        · obtain ⟨k, hk⟩ : ∃ k, heavyKind (targetStart (stagesStart order s)).output.wheel
              (targetStart (stagesStart order s)).engine.target = some k := by
            rcases hcases with h | h | h
            · exact absurd (h.symm.trans hother) nofun
            · omega
            · exact Option.ne_none_iff_exists'.mp h
          have hwheelStart : k = .wheelStart := by
            rw [happlied, heconomize] at hother
            cases htarget' : (targetStart (stagesStart order s)).engine.target
            case economize => rw [htarget'] at hother; cases hother
            case bypass => rw [htarget'] at hk; cases hk
            case recover =>
              rw [htarget', heavyKind] at hk
              split at hk <;> cases hk
              rfl
          subst hwheelStart
          obtain ⟨p, hp, hkind, hsame⟩ := decision_hands_wheelStart (stages_heavy hother hmany hk) hkept
          rw [hkept.stagger] at hp
          exact ⟨p, hp, hkind, by rw [← hunjudged, ← hg]; exact hsame⟩

end Sys2Proof.Machine
end


-- ==== Sys2Proof/Proofs/Receive.lean ====
section
/-! SUPPORT. A frame at the receiver, and what the peer table and the intent list make of it (spec/05, spec/07, spec/09). -/

namespace Sys2Proof.Machine

variable {s t : State} {f : Frame}

/-! ### The silence of a record (R84 to R89) -/

theorem exec_silenceLost {expiry : SilenceExpiry} {r : PeerRecord}
    (h : recordDue s expiry .coasting 6 = some r) : exec (.silenceLost expiry) s = .next (lose r s) := by
  change execSilenceLost expiry s = _
  simp [execSilenceLost, h]

/-- No record is due while every record of the address is in another state or has been heard since. -/
theorem recordDue_none {expiry : SilenceExpiry} {st : PeerState} {multiple : Nat}
    (h : ∀ r ∈ s.table.records, r.address = expiry.peer.toNat →
      r.state ≠ st ∨ max r.silence expiry.elapsed < multiple * (max 5 (min 60 r.said.period)) * 1000) :
    recordDue s expiry st multiple = none :=
  recordDue_eq_none fun r hr => by
    obtain ⟨hmem, haddress⟩ := findRecord_spec hr
    refine (h r hmem haddress).imp id fun hlt => ?_
    simpa [secs, PeerRecord.pp, clampNat] using hlt

theorem replaceRecord_aged (r : PeerRecord) (st : PeerState) (multiple : Nat) (l : List PeerRecord) :
    replaceRecord (aged r st multiple) l = l.map fun x =>
      if x.address = r.address then
        { r with state := st, silence := max r.silence (multiple * (max 5 (min 60 r.said.period)) * 1000) }
      else x := rfl

/-- Settles O47: the record due is the one of the address, and its replacement or removal is the table's only change. -/
theorem silenceMovesOneRecord : Obligations.SilenceMovesOneRecord := by
  unfold Obligations.SilenceMovesOneRecord
  refine ⟨fun expiry order r s htable hr haddress => ⟨fun hstate hdue => ?_, fun hstate hdue => ?_, fun hstate hdue => ?_⟩,
    fun expiry order s => ⟨fun h => ?_, fun h => ?_, fun h => ?_⟩⟩
  · refine ⟨_, exec_silenceCoasting order (hstate ▸ recordDue_of_mem htable hr haddress hdue), ?_⟩
    simp [coast, setRecords, replaceRecord_aged]
  · refine ⟨_, exec_silenceLost (hstate ▸ recordDue_of_mem htable hr haddress hdue), ?_⟩
    simp [lose, setRecords, replaceRecord_aged, reportChange_reconciler, ageReport]
  · refine ⟨_, exec_silenceFreed order (hstate ▸ recordDue_of_mem htable hr haddress hdue), ?_⟩
    simp [free, setRecords, removeRecord]
  · change execSilenceCoasting expiry order s = _
    simp [execSilenceCoasting, recordDue_none h]
  · change execSilenceLost expiry s = _
    simp [execSilenceLost, recordDue_none h]
  · change execSilenceFreed expiry order s = _
    simp [execSilenceFreed, recordDue_none h]

/-! ### A whole frame (R154, R158) -/

/-- A whole frame that the receiver can take goes to the checks. -/
theorem receiveBytes_whole (order : ReportOrder) (hcan : canReceive s = true) (hwhole : frameWhole f = true) :
    receiveBytes order f s = checkFrame order f s := by
  have hwhole : byteAt f 2 ≤ 48 ∧ f.length = 5 + byteAt f 2 := by
    simpa [frameWhole, byteAt] using hwhole
  obtain ⟨hfits, hlength⟩ := hwhole
  rw [receiveBytes, if_pos hcan, if_neg (by omega), if_neg (by omega), if_neg (by omega), List.take_of_length_le (by omega)]

/-- The four commands that bring a frame hand it to the receiver; only an ANNOUNCE uses its order. -/
theorem exec_frame {c : Instr} (order : ReportOrder)
    (hc : c = .announce f order ∨ c = .intent f ∨ c = .replyReceived f ∨ c = .queryForOtherStation f) (s : State) :
    ∃ o, exec c s = .next (receiveBytes o f s) := by
  rcases hc with rfl | rfl | rfl | rfl
  · exact ⟨order, rfl⟩
  all_goals exact ⟨.reconcilerFirst, rfl⟩

/-- The state a valid frame of another station is handed on in. -/
def heardState (s : State) : State := hearStation (receiverTo .waitIdle s)

theorem checkFrame_valid (order : ReportOrder) (hvalid : frameValid f = true) (hother : frameSource f ≠ s.startUp.address) :
    checkFrame order f s = handOnFrame order f (heardState s) := by
  rw [checkFrame, if_pos hvalid, takeValid, if_neg fun h => hother h.1]
  rfl

theorem checkFrame_invalid (order : ReportOrder) (hvalid : frameValid f = false) :
    checkFrame order f s = countCrcError (receiverTo .waitIdle s) := by
  rw [checkFrame, if_neg (by simp [hvalid])]

theorem receiveBytes_valid (order : ReportOrder) (hcan : canReceive s = true) (hwhole : frameWhole f = true)
    (hvalid : frameValid f = true) (hother : frameSource f ≠ s.startUp.address) :
    receiveBytes order f s = handOnFrame order f (heardState s) :=
  (receiveBytes_whole order hcan hwhole).trans (checkFrame_valid order hvalid hother)

/-- What hearing a station leaves as it is. -/
@[simp] theorem heardState_frame (s : State) :
    (heardState s).scanner = s.scanner ∧ (heardState s).rotation = s.rotation ∧ (heardState s).reconciler = s.reconciler ∧
    (heardState s).engine = s.engine ∧ (heardState s).table = s.table ∧ (heardState s).allocator = s.allocator ∧
    (heardState s).stagger = s.stagger ∧ (heardState s).output = s.output ∧ (heardState s).counters = s.counters ∧
    (heardState s).freeDraws = s.freeDraws ∧ (heardState s).pending = s.pending ∧
    (heardState s).startUp.address = s.startUp.address ∧ (heardState s).startUp.settings = s.startUp.settings ∧
    (heardState s).responder.sticky = s.responder.sticky := by
  simp [heardState, receiverTo]

@[simp] theorem heardState_lifecycle (s : State) : (heardState s).startUp.lifecycle =
    if s.startUp.lifecycle = .isolated then .joining else s.startUp.lifecycle := by
  unfold heardState hearStation
  by_cases h : s.startUp.lifecycle = .isolated <;> simp [receiverTo, rejoin, setLifecycle, h]

theorem hearing_joining : Lifecycle.joining.hearing = true := rfl

theorem hearing_isolated : Lifecycle.isolated.hearing = true := rfl

/-- Hearing is after the return of an ISOLATED station to JOINING, and JOINING hears as ISOLATED does (R169, R170). -/
theorem heardState_bus (s : State) : (heardState s).bus = { s.bus with
    receiver := .waitIdle, remnant := false, heard := true
    lastHeard := if s.startUp.lifecycle.hearing = true then some (secs (5 * s.cfg.announcePeriod)) else s.bus.lastHeard } := by
  unfold heardState hearStation
  by_cases h : s.startUp.lifecycle = .isolated <;> simp [receiverTo, rejoin, setLifecycle, h, hearing_joining, hearing_isolated, State.cfg]

theorem heardState_of_ne (h : s.startUp.lifecycle ≠ .isolated) : heardState s = { s with bus := { s.bus with
    receiver := .waitIdle, remnant := false, heard := true
    lastHeard := if s.startUp.lifecycle.hearing = true then some (secs (5 * s.cfg.announcePeriod)) else s.bus.lastHeard } } := by
  simp [heardState, hearStation, receiverTo, h, State.cfg]

theorem heardState_isolated (h : s.startUp.lifecycle = .isolated) :
    (heardState s).startUp = { s.startUp with lifecycle := .joining, ownCount := 0 } ∧
    (s.cfg.fanOwner = true → (heardState s).fan.suspended = s.bus.stuck) := by
  have hheard : heardState s = { rejoin (receiverTo .waitIdle s) with bus := (heardState s).bus } := by
    simp [heardState, hearStation, receiverTo, h]
  rw [hheard]
  refine ⟨by simp [rejoin, setLifecycle, receiverTo], fun howner => ?_⟩
  refine (fanFollows_suspended ?_).trans ?_
  · simp [fanActive, setLifecycle, receiverTo, State.cfg, howner, Lifecycle.inService]
  · simp [suspensionDue, setLifecycle, receiverTo]

/-! ### Frames heard or discarded (R158, R159, R169, R170) -/

theorem frameKindOf_eq_none {n : Nat} : frameKindOf n = none ↔ n ≠ 1 ∧ n ≠ 2 ∧ n ≠ 3 ∧ n ≠ 4 := by
  unfold frameKindOf
  split_ifs <;> simp_all

theorem frameKindOf_eq_some {n : Nat} {k : FrameKind} : frameKindOf n = some k ↔ n = k.code := by
  cases k <;> (unfold frameKindOf FrameKind.code; split_ifs <;> simp_all)

theorem frameValid_iff (f : Frame) : frameValid f = true ↔
    (crc16 (f.take 3 ++ [0, 0] ++ f.drop 5)).toNat = halfAt f 3 ∧
    ((byteAt f 1 / 16 = 1 ∧ byteAt f 0 / 64 = 0 ∧ byteAt f 2 = 4 ∧ (byteAt f 5 = 1 ∨ byteAt f 5 = 2)) ∨
     (byteAt f 1 / 16 = 2 ∧ byteAt f 0 / 64 = 1 ∧ byteAt f 2 = 24 ∧ byteAt f 6 / 64 ≠ 3) ∨
     (byteAt f 1 / 16 = 3 ∧ byteAt f 0 / 64 = 3 ∧ byteAt f 2 = 4) ∨
     (byteAt f 1 / 16 = 4 ∧ byteAt f 0 / 64 = 2 ∧ 3 ≤ byteAt f 2 ∧ byteAt f 2 ≤ 48)) := by
  unfold frameValid
  cases hkind : frameKind f with
  | none =>
    obtain ⟨h1, h2, h3, h4⟩ := frameKindOf_eq_none.mp hkind
    exact iff_of_false (by simp) fun ⟨_, h⟩ => by
      rcases h with h | h | h | h
      · exact h1 h.1
      · exact h2 h.1
      · exact h3 h.1
      · exact h4 h.1
  | some k =>
    have hcode : byteAt f 1 / 16 = k.code := frameKindOf_eq_some.mp hkind
    simp only [Bool.and_eq_true, decide_eq_true_eq, hcode]
    cases k <;>
      simp [FrameKind.code, FrameKind.frameClass, lengthFits, bodyFits, frameCrc, and_assoc]

theorem handOnFrame_quiet (order : ReportOrder) (h : frameKind f = some .reply ∨ (frameKind f = some .query ∧ byteAt f 5 ≠ t.startUp.address)) :
    handOnFrame order f t = t := by
  rcases h with h | ⟨h, haddress⟩
  · simp [handOnFrame, h]
  · simp [handOnFrame, h, haddress]

theorem canReceive_of_not (h : s.bus.transmitter ≠ .quiet ∨ s.bus.receiver = .off ∨ s.bus.receiver = .waitIdle) :
    canReceive s = false := by
  rcases h with h | h | h <;> simp [canReceive, h]

/-- Settles O51: the checks of a frame, and the three ways a frame no block takes ends. -/
theorem framesAreHeardOrDiscarded : Obligations.FramesAreHeardOrDiscarded := by
  unfold Obligations.FramesAreHeardOrDiscarded
  refine ⟨frameValid_iff, fun c f order s hc hcan hwhole hvalid hother hkind => ⟨_, rfl, fun hl => ?_, fun hl => ?_⟩,
    fun c f order s hc hcan hwhole hvalid => ?_, fun c f order s hc hno => ?_⟩
  all_goals obtain ⟨o, hexec⟩ := exec_frame order hc s
  · rw [hexec, receiveBytes_valid o hcan hwhole hvalid hother, handOnFrame_quiet o (by simpa using hkind), heardState_of_ne hl]
  · obtain ⟨hstartUp, hsuspended⟩ := heardState_isolated hl
    refine ⟨heardState s, ?_, hstartUp, heardState_bus s, fun howner hstuck => by rw [hsuspended howner, hstuck],
      fun howner hstuck => by rw [hsuspended howner, hstuck], by simp⟩
    rw [hexec, receiveBytes_valid o hcan hwhole hvalid hother, handOnFrame_quiet o (by simpa using hkind)]
  · rw [hexec, receiveBytes_whole o hcan hwhole, checkFrame_invalid o hvalid]
    rfl
  · rw [hexec, receiveBytes, if_neg (by simp [canReceive_of_not hno])]

/-! ### The intent list (R120, R121) -/

@[simp] theorem length_insertKey (k : Key) (l : List Key) : (insertKey k l).length = l.length + 1 := by
  induction l with
  | nil => rfl
  | cons x xs ih => unfold insertKey; split <;> simp [ih]

/-- A key after every other one goes to the end. -/
theorem insertKey_of_last {k : Key} {l : List Key} (h : ∀ x ∈ l, x.lower k = true) : insertKey k l = l ++ [k] := by
  induction l with
  | nil => rfl
  | cons x xs ih =>
    have hx : ¬ k.lower x = true := fun hlower => by
      have := h x List.mem_cons_self
      simp only [Key.lower, decide_eq_true_eq] at this hlower
      omega
    rw [insertKey, if_neg hx, ih fun y hy => h y (List.mem_cons_of_mem _ hy), List.cons_append]

/-- A key before the last one leaves it the last. -/
theorem insertKey_append {k m : Key} (h : k.lower m = true) (l : List Key) : insertKey k (l ++ [m]) = insertKey k l ++ [m] := by
  induction l with
  | nil => simp [insertKey, h]
  | cons x xs ih =>
    simp only [List.cons_append, insertKey, ih]
    split <;> rfl

theorem filter_address_self {k : Key} {l : List Key} (h : ∀ x ∈ l, x.address ≠ k.address) :
    (l.filter fun x => decide (x.address ≠ k.address)) = l := List.filter_eq_self.mpr fun x hx => by simpa using h x hx

/-- While a place is free, or is made free by the entry of the same address, the key takes it (R121). -/
theorem mem_takeKey_of_room {k x : Key} {l : List Key} (h : (∃ y ∈ l, y.address = k.address) ∨ l.length < 16) (hlength : l.length ≤ 16) :
    x ∈ takeKey k l ↔ x = k ∨ (x ∈ l ∧ x.address ≠ k.address) := by
  have hroom : (l.filter fun y => decide (y.address ≠ k.address)).length < 16 := by
    rcases h with ⟨y, hy, haddress⟩ | h
    · exact (List.length_filter_lt_length_iff_exists.mpr ⟨y, hy, by simpa using haddress⟩).trans_le hlength
    · exact (List.length_filter_le _ _).trans_lt h
  rw [takeKey, List.take_of_length_le (by rw [length_insertKey]; omega), mem_insertKey, List.mem_filter, decide_eq_true_iff]

theorem takeKey_of_largest {k : Key} {l : List Key} (hlength : l.length = 16) (hnew : ∀ x ∈ l, x.address ≠ k.address)
    (h : ∀ x ∈ l, x.lower k = true) : takeKey k l = l := by
  rw [takeKey, filter_address_self hnew, insertKey_of_last h, ← hlength, List.take_left]

/-- The seventeenth key drives out the largest (R121). -/
theorem mem_takeKey_of_full {k m x : Key} {l : List Key} (hlength : l.length = 16) (hnew : ∀ x ∈ l, x.address ≠ k.address)
    (hascending : KeysAscending l) (hm : m ∈ l.getLast?) (h : k.lower m = true) :
    x ∈ takeKey k l ↔ x = k ∨ (x ∈ l ∧ x ≠ m) := by
  obtain ⟨l, rfl⟩ := List.getLast?_eq_some_iff.mp hm
  have hlength' : (insertKey k l).length = 16 := by simpa using hlength
  have hne : ∀ y ∈ l, y ≠ m := fun y hy heq =>
    ((List.pairwise_append.mp hascending).2.2 y hy m (by simp)).2 (congrArg Key.address heq)
  rw [takeKey, filter_address_self hnew, insertKey_append h, ← hlength', List.take_left, mem_insertKey]
  refine or_congr_right ⟨fun hx => ⟨by simp [hx], hne x hx⟩, fun ⟨hx, hxm⟩ => ?_⟩
  simpa [hxm] using hx

theorem takeIntent_of (riser : Nat) (k : Key) (h : inWindow s = true) (hgroup : s.cfg.riserGroup ≠ 0) (hriser : riser = s.cfg.riserGroup) :
    takeIntent riser k s = { s with stagger := { s.stagger with intents := takeKey k s.stagger.intents } } :=
  if_pos ⟨h, hgroup, hriser⟩

theorem takeIntent_of_not (riser : Nat) (k : Key) (h : inWindow s = false ∨ s.cfg.riserGroup = 0 ∨ riser ≠ s.cfg.riserGroup) :
    takeIntent riser k s = s := if_neg fun ⟨hw, hgroup, hriser⟩ => by
  rcases h with h | h | h
  · simp [h] at hw
  · exact hgroup h
  · exact h hriser

/-- Settles O50: the key enters the list by `takeKey`, whose members the three cases of R121 name. -/
theorem intentEntersTheList : Obligations.IntentEntersTheList := by
  unfold Obligations.IntentEntersTheList
  intro f s hcan hwhole hvalid hkind hother ⟨hlength, hascending⟩
  have hcfg : (heardState s).cfg = s.cfg := by simp [State.cfg]
  have hwindow : inWindow (heardState s) = inWindow s := by simp [inWindow]
  have hexec : exec (.intent f) s = .next (takeIntent (byteAt f 6) { height := min 600 (halfAt f 7), address := frameSource f } (heardState s)) := by
    change execIntent f s = _
    rw [execIntent, receiveBytes_valid _ hcan hwhole hvalid hother, handOnFrame, hkind]
  refine ⟨_, _, hexec, rfl, by simp [heardState_bus], by simp [heardState_bus], by simp, by simp, by simp, by simp, by simp, ?_,
    fun h => ?_, fun hin hgroup hriser => ?_⟩
  · unfold takeIntent
    split <;> simp
  · rw [takeIntent_of_not _ _ (by rwa [hwindow, hcfg]), (heardState_frame s).2.2.2.2.2.2.1]
  · rw [takeIntent_of _ _ (by rwa [hwindow]) (by rwa [hcfg]) (by rwa [hcfg])]
    simp only [heardState_frame]
    exact ⟨fun hroom x => mem_takeKey_of_room hroom hlength, fun hfull hnew =>
      ⟨takeKey_of_largest hfull hnew, fun m hm hlower x => mem_takeKey_of_full hfull hnew hascending hm hlower⟩⟩

/-! ### An ANNOUNCE for a record held (R76 to R79) -/

/-- A record is LIVE, heard from, and what an ANNOUNCE says. -/
theorem replaceRecord_from (c : Settings) (source gaps : Nat) (a : Announcement) (l : List PeerRecord) :
    replaceRecord (recordFrom c source gaps a) l = l.map fun x =>
      if x.address = source then {
        address := source
        sameRiser := decide (c.riserGroup ≠ 0 ∧ a.riserGroup = c.riserGroup)
        samePlant := decide (c.plantGroup ≠ 0 ∧ a.plantGroup = c.plantGroup)
        state := .live, silence := 0, gapCount := gaps, said := { a with height := min 600 a.height } }
      else x := rfl

/-- An ANNOUNCE that is not the next in sequence, nor a duplicate, of a record that is not LOST (R77). -/
def gapBefore (r : PeerRecord) (a : Announcement) : Bool :=
  decide (r.state ≠ .lost ∧ a.sequence ≠ r.said.sequence ∧ a.sequence ≠ (r.said.sequence + 1) % 256)

theorem knownAnnounce_duplicate (order : ReportOrder) {r : PeerRecord} {a : Announcement} (h : r.state ≠ .lost)
    (hsequence : a.sequence = r.said.sequence) : knownAnnounce order r a s = s := by
  rw [knownAnnounce, if_neg h, if_pos hsequence]

/-- Any other ANNOUNCE is accepted, a gap counted. -/
theorem knownAnnounce_accepted (order : ReportOrder) {r : PeerRecord} {a : Announcement} (h : r.state = .lost ∨ a.sequence ≠ r.said.sequence) :
    knownAnnounce order r a s = acceptAnnounce order r (if gapBefore r a = true then min 255 (r.gapCount + 1) else r.gapCount) a
      { s with counters := { s.counters with
        seqGaps := if gapBefore r a = true then min 65535 (s.counters.seqGaps + 1) else s.counters.seqGaps } } := by
  unfold knownAnnounce
  by_cases hlost : r.state = .lost
  · simp [hlost, gapBefore]
  · have hsequence := h.resolve_left hlost
    by_cases hnext : a.sequence = (r.said.sequence + 1) % 256
    · rw [if_neg hlost, if_neg hsequence, if_pos hnext]
      simp [gapBefore, hnext]
    · rw [if_neg hlost, if_neg hsequence, if_neg hnext]
      simp [gapBefore, hlost, hsequence, hnext, countSeqGap, bump, satInc]

theorem exec_announce (order : ReportOrder) (hcan : canReceive s = true) (hwhole : frameWhole f = true) (hvalid : frameValid f = true)
    (hkind : frameKind f = some .announce) (hother : frameSource f ≠ s.startUp.address) :
    exec (.announce f order) s = .next (takeAnnounce order (frameSource f) (announcementOf f) (heardState s)) := by
  change execAnnounce f order s = _
  rw [execAnnounce, receiveBytes_valid _ hcan hwhole hvalid hother, handOnFrame, hkind]

/-- The peer table does not take an ANNOUNCE from address 0, nor one before LISTEN (R74, R75). -/
theorem takeAnnounce_heard (order : ReportOrder) {source : Nat} (a : Announcement) (hsource : source ≠ 0)
    (hconfig : s.startUp.lifecycle ≠ .config) (hcommission : s.startUp.lifecycle ≠ .commission) :
    (∀ r, findRecord source s.table.records = some r →
      takeAnnounce order source a (heardState s) = knownAnnounce order r a (heardState s)) ∧
    (findRecord source s.table.records = none →
      takeAnnounce order source a (heardState s) = newAnnounce order source a (heardState s)) := by
  have htaken : ¬ (source = 0 ∨ (heardState s).startUp.lifecycle = .config ∨ (heardState s).startUp.lifecycle = .commission) := by
    rw [heardState_lifecycle]
    split <;> simp [hsource, hconfig, hcommission]
  refine ⟨fun r hfound => ?_, fun hfound => ?_⟩ <;> (rw [takeAnnounce, if_neg htaken]; simp [hfound])

/-- Settles O48: the sequence number says duplicate, gap or successor, and an acceptance is one reported replacement. -/
theorem announceUpdatesItsRecord : Obligations.AnnounceUpdatesItsRecord := by
  unfold Obligations.AnnounceUpdatesItsRecord
  intro f order r s hcan hwhole hvalid hkind hother hsource hconfig hcommission htable hr haddress
  have hexec := exec_announce order hcan hwhole hvalid hkind hother
  rw [(takeAnnounce_heard order _ hsource hconfig hcommission).1 r (haddress ▸ findRecord_of_mem htable.2.1 hr)] at hexec
  refine ⟨_, announcementOf f, gapBefore r (announcementOf f), hexec, rfl, by simp [gapBefore], ?_⟩
  by_cases h : r.state ≠ .lost ∧ (announcementOf f).sequence = r.said.sequence
  · have hstays := knownAnnounce_duplicate (s := heardState s) order h.1 h.2
    simp only [hstays]
    refine ⟨by simp [heardState_bus], by simp [heardState_bus], by simp, by simp, by simp, fun _ _ => by simp, fun h' => ?_⟩
    exact absurd h' (by simp [h.1, h.2])
  · have haccepted : r.state = .lost ∨ (announcementOf f).sequence ≠ r.said.sequence := by
      by_cases hlost : r.state = .lost
      · exact .inl hlost
      · exact .inr fun hsequence => h ⟨hlost, hsequence⟩
    have htaken := knownAnnounce_accepted (s := heardState s) order haccepted
    simp only [htaken]
    refine ⟨by simp [acceptAnnounce, setRecords, heardState_bus], by simp [acceptAnnounce, setRecords, heardState_bus],
      by simp [acceptAnnounce, setRecords], by simp [acceptAnnounce, setRecords], by simp [acceptAnnounce, setRecords],
      fun hlost hsequence => absurd ⟨hlost, hsequence⟩ h, fun _ => ⟨?_, by simp [acceptAnnounce, setRecords], ?_⟩⟩
    · simp [acceptAnnounce, setRecords, replaceRecord_from, State.cfg]
    · exact referenceFollows_reportChange order rfl (by simp [setRecords]) (by simp [setRecords])

/-! ### An ANNOUNCE of a new peer (R80 to R83) -/

/-- A choice that keeps to a total order of weights prefers a record of the greatest weight. -/
theorem preferred_spec {choose : PeerRecord → PeerRecord → PeerRecord} {le : PeerRecord → PeerRecord → Prop}
    (hrefl : ∀ a, le a a) (htrans : ∀ a b c, le a b → le b c → le a c)
    (hchoose : ∀ a b, (choose a b = a ∨ choose a b = b) ∧ le a (choose a b) ∧ le b (choose a b)) {l : List PeerRecord} (h : l ≠ []) :
    ∃ v ∈ l, preferred choose l = some v ∧ ∀ u ∈ l, le u v := by
  induction l with
  | nil => exact absurd rfl h
  | cons r rs ih =>
    cases rs with
    | nil => exact ⟨r, by simp, rfl, by simpa using hrefl r⟩
    | cons x xs =>
      obtain ⟨v, hv, hpreferred, hbest⟩ := ih (by simp)
      obtain ⟨hone, hr, hv'⟩ := hchoose r v
      refine ⟨choose r v, ?_, by rw [preferred, hpreferred], fun u hu => ?_⟩
      · rcases hone with h | h <;> rw [h]
        · exact List.mem_cons_self
        · exact List.mem_cons_of_mem _ hv
      · rcases List.mem_cons.mp hu with rfl | hu
        · exact hr
        · exact htrans _ _ _ (hbest u hu) hv'

/-- The order of eviction by a weight: the weight, then the address (R81). -/
def notAfter (weight : PeerRecord → Nat) (u v : PeerRecord) : Prop :=
  weight u < weight v ∨ (weight u = weight v ∧ u.address ≤ v.address)

theorem notAfter.refl (weight : PeerRecord → Nat) (a : PeerRecord) : notAfter weight a a := .inr ⟨rfl, le_rfl⟩

theorem notAfter.trans {weight : PeerRecord → Nat} {a b c : PeerRecord} (h : notAfter weight a b) (h' : notAfter weight b c) :
    notAfter weight a c := by
  unfold notAfter at *
  omega

/-- The later of two records by a weight, the address deciding between equals. -/
theorem choice_spec {weight : PeerRecord → Nat} {choose : PeerRecord → PeerRecord → PeerRecord}
    (h : ∀ a b, choose a b = if weight a < weight b ∨ (weight a = weight b ∧ a.address < b.address) then b else a) (a b : PeerRecord) :
    (choose a b = a ∨ choose a b = b) ∧ notAfter weight a (choose a b) ∧ notAfter weight b (choose a b) := by
  rw [h]
  unfold notAfter
  split
  · exact ⟨.inr rfl, by omega, by omega⟩
  · exact ⟨.inl rfl, by omega, by omega⟩

/-- How far a record's station is from a height (R81). -/
def heightFrom (h : Nat) (r : PeerRecord) : Nat := ((r.said.height : Int) - h).natAbs

theorem preferred_silence {l : List PeerRecord} (h : l ≠ []) :
    ∃ v ∈ l, preferred laterSilence l = some v ∧ ∀ u ∈ l, notAfter PeerRecord.silence u v :=
  preferred_spec (notAfter.refl _) (fun _ _ _ => notAfter.trans) (choice_spec fun _ _ => rfl) h

theorem preferred_farther (n : Nat) {l : List PeerRecord} (h : l ≠ []) :
    ∃ v ∈ l, preferred (farther n) l = some v ∧ ∀ u ∈ l, notAfter (heightFrom n) u v :=
  preferred_spec (notAfter.refl _) (fun _ _ _ => notAfter.trans) (choice_spec fun _ _ => rfl) h

/-- A LOST record goes first, that of longest silence (R81). -/
theorem victim_lost (n : Nat) {l : List PeerRecord} (h : ∃ r ∈ l, r.state = .lost) :
    ∃ v ∈ l, victim n l = some v ∧ v.state = .lost ∧ ∀ u ∈ l, u.state = .lost → notAfter PeerRecord.silence u v := by
  obtain ⟨r, hr, hlost⟩ := h
  obtain ⟨v, hv, hpreferred, hbest⟩ := preferred_silence (l := l.filter fun r => decide (r.state = .lost))
    (List.ne_nil_of_mem (List.mem_filter.mpr ⟨hr, by simpa using hlost⟩))
  obtain ⟨hmem, hstate⟩ := List.mem_filter.mp hv
  exact ⟨v, hmem, by rw [victim, hpreferred], by simpa using hstate,
    fun u hu hu' => hbest u (List.mem_filter.mpr ⟨hu, by simpa using hu'⟩)⟩

theorem filter_lost {l : List PeerRecord} (h : ∀ r ∈ l, r.state ≠ .lost) : (l.filter fun r => decide (r.state = .lost)) = [] :=
  List.filter_eq_nil_iff.mpr fun r hr => by simpa using h r hr

/-- Without a LOST record the farthest outdoor-only one goes (R81). -/
theorem victim_outdoorOnly (n : Nat) {l : List PeerRecord} (hnone : ∀ r ∈ l, r.state ≠ .lost) (h : ∃ r ∈ l, r.outdoorOnly = true) :
    ∃ v ∈ l, victim n l = some v ∧ v.outdoorOnly = true ∧ ∀ u ∈ l, u.outdoorOnly = true → notAfter (heightFrom n) u v := by
  obtain ⟨r, hr, houtdoor⟩ := h
  obtain ⟨v, hv, hpreferred, hbest⟩ := preferred_farther n (l := l.filter PeerRecord.outdoorOnly)
    (List.ne_nil_of_mem (List.mem_filter.mpr ⟨hr, houtdoor⟩))
  obtain ⟨hmem, hstate⟩ := List.mem_filter.mp hv
  exact ⟨v, hmem, by rw [victim, filter_lost hnone, preferred, hpreferred], hstate,
    fun u hu hu' => hbest u (List.mem_filter.mpr ⟨hu, hu'⟩)⟩

theorem victim_none (n : Nat) {l : List PeerRecord} (hnone : ∀ r ∈ l, r.state ≠ .lost) (h : ∀ r ∈ l, r.outdoorOnly = false) :
    victim n l = none := by
  have houtdoor : l.filter PeerRecord.outdoorOnly = [] := List.filter_eq_nil_iff.mpr fun r hr => by simp [h r hr]
  rw [victim, filter_lost hnone, houtdoor]
  rfl

/-- A refusal is counted, and the station heard (R82). -/
theorem countRefusal_heard (s : State) :
    (countRefusal (heardState s)).table = s.table ∧ (countRefusal (heardState s)).allocator = s.allocator ∧
    (countRefusal (heardState s)).reconciler = s.reconciler ∧ (countRefusal (heardState s)).counters =
      { s.counters with tableRefusals := min 65535 (s.counters.tableRefusals + 1) } := by
  simp [countRefusal, bump, satInc]

/-- A record taken in keeps the other ones, but for the one evicted for it. -/
theorem insertNew_heard (order : ReportOrder) (evicted : Option PeerRecord) (new : PeerRecord) (htable : tableSound s)
    (hv : ∀ v ∈ evicted, v ∈ s.table.records) :
    (∀ x, x ∈ (insertNew order evicted new (heardState s)).table.records ↔
      x = new ∨ (x ∈ s.table.records ∧ ∀ v ∈ evicted, x ≠ v)) ∧
    (insertNew order evicted new (heardState s)).table.lone = false ∧
    (insertNew order evicted new (heardState s)).counters = s.counters ∧
    referenceFollows s (insertNew order evicted new (heardState s)) := by
  refine ⟨fun x => ?_, by cases evicted <;> simp [insertNew], by cases evicted <;> simp [insertNew],
    referenceFollows_reportChange order rfl (by simp) (by simp)⟩
  cases evicted with
  | none => simp [insertNew]
  | some v =>
    have hsame : x ∈ s.table.records → (x.address = v.address ↔ x = v) := fun hx =>
      ⟨fun haddress => Ascending.eq_of_address htable.2.1 hx (hv v rfl) haddress, fun h => h ▸ rfl⟩
    simp only [insertNew, reportChange_frame, heardState_frame, mem_insertRecord, removeRecord, List.mem_filter, decide_eq_true_iff]
    exact or_congr_right (and_congr_right fun hx => by simp [hsame hx])

/-- Settles O49: the branches of `newAnnounce`, the victim being the record R81 prefers. -/
theorem announceAdmitsEvictsOrIsRefused : Obligations.AnnounceAdmitsEvictsOrIsRefused := by
  unfold Obligations.AnnounceAdmitsEvictsOrIsRefused
  intro f order s hcan hwhole hvalid hkind hother hsource hconfig hcommission htable hnew
  have hfound : findRecord (frameSource f) s.table.records = none := by
    cases hr : findRecord (frameSource f) s.table.records with
    | none => rfl
    | some r => exact absurd (findRecord_spec hr).2 (hnew r (findRecord_spec hr).1)
  have hexec := exec_announce order hcan hwhole hvalid hkind hother
  rw [(takeAnnounce_heard order _ hsource hconfig hcommission).2 hfound] at hexec
  refine ⟨_, announcementOf f, recordFrom s.cfg (frameSource f) 0 (announcementOf f), hexec, rfl, rfl, ?_⟩
  simp only [newAnnounce, heardState_frame]
  refine ⟨fun hroom => ?_, fun hfull hnewcomer => ?_, fun hfull hnewcomer hnone hmembers => ?_, fun hfull hnewcomer hlost => ?_,
    fun hfull hnewcomer hnone houtdoor => ?_⟩
  · rw [if_pos hroom]
    simpa using insertNew_heard order none (recordFrom s.cfg (frameSource f) 0 (announcementOf f)) htable (by simp)
  all_goals rw [if_neg (show ¬ s.table.records.length < 32 by omega)]
  · rw [if_pos hnewcomer]
    exact countRefusal_heard s
  all_goals rw [if_neg (show ¬ (recordFrom s.cfg (frameSource f) 0 (announcementOf f)).outdoorOnly = true by simp [hnewcomer])]
  · rw [victim_none _ hnone hmembers]
    exact countRefusal_heard s
  · obtain ⟨v, hv, hvictim, hstate, hbest⟩ := victim_lost s.cfg.height hlost
    rw [hvictim]
    refine ⟨v, hv, hstate, hbest, ?_⟩
    simpa using insertNew_heard order (some v) (recordFrom s.cfg (frameSource f) 0 (announcementOf f)) htable (by simpa using hv)
  · obtain ⟨v, hv, hvictim, hstate, hbest⟩ := victim_outdoorOnly s.cfg.height hnone houtdoor
    rw [hvictim]
    refine ⟨v, hv, hstate, hbest, ?_⟩
    simpa using insertNew_heard order (some v) (recordFrom s.cfg (frameSource f) 0 (announcementOf f)) htable (by simpa using hv)

end Sys2Proof.Machine
end


-- ==== Sys2Proof/Proofs/Slots.lean ====
section
/-! SUPPORT. The end of a staggered change: INTENT_WINDOW_EXPIRY and SLOT_TIMER_EXPIRY (spec/07, R18, R122, R123). -/

namespace Sys2Proof.Machine

variable {s t : State} {p : Pending}

theorem exec_intentWindowExpiry_running (hp : s.stagger.pending = some p) (htimer : s.stagger.windowTimer.isSome = true) :
    exec .intentWindowExpiry s = .next (windowExpires p s) := by
  change execIntentWindowExpiry s = _
  obtain ⟨n, hn⟩ := Option.isSome_iff_exists.mp htimer
  simp [execIntentWindowExpiry, hp, hn]

theorem exec_slotTimerExpiry_running (hp : s.stagger.pending = some p) (htimer : s.stagger.slotTimer.isSome = true) :
    exec .slotTimerExpiry s = .next (completeChange p.kind { s with stagger := idleStagger }) := by
  change execSlotTimerExpiry s = _
  obtain ⟨n, hn⟩ := Option.isSome_iff_exists.mp htimer
  simp [execSlotTimerExpiry, hp, hn, slotExpires]

/-- An ECON_OPEN passes in ACTIVE, with the outdoor damper not in FAULT and the minimum useful share granted (R18). -/
theorem econOpen_passes (s : State) : completionPasses .econOpen s = true ↔
    s.startUp.lifecycle = .active ∧ s.output.outdoor.outcome ≠ .fault ∧
    max 1 (s.cfg.minUseful * s.engine.reliefRequest / 100) ≤ s.grant .relief := by
  simp [completionPasses, economizeAvailable, minShare, minUsefulShare, and_assoc]

/-- The state a change is completed in: the transition ended, the count at 0 (R18, R123). -/
def completing (s : State) : State := { s with stagger := idleStagger, engine := { s.engine with dwell := 0 } }

theorem completeChange_econOpen (h : completionPasses .econOpen s = true) :
    completeChange .econOpen { s with stagger := idleStagger } = applyMode .economize (completing s) := by
  rw [completeChange, if_pos (show completionPasses .econOpen { s with stagger := idleStagger } = true from h)]
  rfl

theorem completeChange_wheelStart (h : s.output.wheel ≠ .stalled) :
    completeChange .wheelStart { s with stagger := idleStagger } = setSpeed true (applyMode .recover (completing s)) := by
  rw [completeChange, if_pos (by simpa [completionPasses] using h)]
  rfl

theorem completeChange_lapses {k : ChangeKind} (h : completionPasses k s = false) :
    completeChange k { s with stagger := idleStagger } = { s with stagger := idleStagger } := by
  have h' : completionPasses k { s with stagger := idleStagger } = false := by rw [← h]; cases k <;> rfl
  rw [completeChange, if_neg (by simp [h'])]

/-- A mode that was not applied moves the wheel and drives the dampers (R133, R138, R139). -/
theorem applyMode_of_ne {m : Mode} (h : s.engine.applied ≠ m) :
    applyMode m s = driveDampers (wheelFollows m { s with engine := { s.engine with applied := m } }) := if_neg h

/-- ECONOMIZE entered: the wheel does not run, and the dampers take its commands (R133, R134, R138). -/
theorem economize_entered (h : s.engine.applied ≠ .economize) (hservice : s.startUp.lifecycle.inService = true) :
    (applyMode .economize s).output.wheel ≠ .running ∧ (applyMode .economize s).output.bypass.command = 1000 ∧
    (applyMode .economize s).output.outdoor.command = min s.output.wanted (s.cfg.fmin + s.grant .relief * 1000 / s.cfg.qs) := by
  refine ⟨?_, ?_⟩
  · rw [applyMode_wheel, if_neg h]
    cases s.output.wheel <;> simp [wheelAfter]
  · rw [applyMode_of_ne h]
    obtain ⟨hbypass, houtdoor⟩ := driveDampers_commands
      (wheelFollows .economize { s with engine := { s.engine with applied := .economize } }) (by simpa using hservice)
    rw [hbypass, houtdoor]
    simp [bypassCommand, outdoorCommand, grantedFraction, Mode.inPair, State.cfg, State.grant]

/-- RECOVER entered with a wheel at rest: the wheel starts, the rotation counter with it, and the dampers close (R54, R133, R139). -/
theorem recover_entered (h : s.engine.applied ≠ .recover) (hwheel : s.output.wheel = .stopped ∨ s.output.wheel = .purging) :
    applyMode .recover s = driveDampers (moveWheel .running { s with engine := { s.engine with applied := .recover } }) := by
  have hstarts (u : State) (hu : u.output.wheel = s.output.wheel) : wheelFollows .recover u = moveWheel .running u := by
    unfold wheelFollows
    rcases hwheel with hwheel | hwheel <;> simp [hu, hwheel]
  exact (applyMode_of_ne h).trans (congrArg driveDampers (hstarts { s with engine := { s.engine with applied := .recover } } rfl))

theorem setSpeed_engine (entered : Bool) (s : State) : (setSpeed entered s).engine =
    speedRules s.cfg (s.reading .exhT) (s.reconciler.reference.point.map OutdoorPoint.t) entered s.engine := by simp [setSpeed]

theorem setSpeed_wheelSpd (entered : Bool) (h : s.output.wheel = .running) :
    (setSpeed entered s).output.wheelSpd = (setSpeed entered s).engine.speedTarget := by
  simp [setSpeed, followSpeed, h]

/-- The speed target and the member of a RECOVER just entered: stage 8 from the recorded regime and base speed (R15 to R17). -/
theorem recover_speed (s : State) :
    (setSpeed true (applyMode .recover (completing s))).engine = speedRules s.cfg (s.reading .exhT)
      (s.reconciler.reference.point.map OutdoorPoint.t) true { s.engine with applied := .recover, dwell := 0 } := by
  rw [setSpeed_engine, applyMode_engine]
  simp [State.cfg, State.reading, completing]

/-- A wheel that a staggered RECOVER starts (R54, R136, R139). -/
theorem recover_wheel (h : s.engine.applied ≠ .recover) (hwheel : s.output.wheel = .stopped ∨ s.output.wheel = .purging) :
    let t := setSpeed true (applyMode .recover (completing s))
    t.output.wheel = .running ∧ t.output.wheelRun = true ∧ t.output.wheelSpd = t.engine.speedTarget ∧
    t.output.idle = none ∧ t.output.purge = none ∧ t.rotation.pulses = 0 ∧ t.rotation.zeroRun = 0 ∧
    (s.cfg.pulsesPerRev ≠ 0 → t.rotation.settling = true ∧ t.rotation.gate = some (secs s.cfg.gateWindow)) ∧
    (s.startUp.lifecycle.inService = true → t.output.bypass.command = 0 ∧ t.output.outdoor.command = s.cfg.fmin) := by
  have hentered := recover_entered (s := completing s) h hwheel
  have hrotation : (setSpeed true (applyMode .recover (completing s))).rotation = rotationStart s := by
    simp only [setSpeed_frame, hentered, driveDampers_frame] <;> rfl
  have hrunning : (applyMode .recover (completing s)).output.wheel = .running := by simp [hentered, moveWheel_output]
  refine ⟨by simp [hrunning], by simp [hentered, moveWheel_output], setSpeed_wheelSpd true hrunning,
    by simp [hentered, moveWheel_output], by simp [hentered, moveWheel_output], ?_, ?_, fun hpulses => ?_, fun hservice => ?_⟩
  · rw [hrotation, rotationStart]
    split <;> rfl
  · rw [hrotation, rotationStart]
    split <;> rfl
  · rw [hrotation, rotationStart, if_neg hpulses]
    exact ⟨rfl, rfl⟩
  · obtain ⟨hbypass, houtdoor⟩ := driveDampers_commands
      (moveWheel .running { completing s with engine := { (completing s).engine with applied := .recover } })
      (by simpa [completing] using hservice)
    simp only [setSpeed_frame, hentered, hbypass, houtdoor]
    simp [bypassCommand, outdoorCommand, Mode.inPair, State.cfg, completing]

/-- Settles O46: the two expiries are a slot reckoned and a change completed; a completion is an applied mode, and stage 8 for RECOVER. -/
theorem slotsComeInOrderOfKeyAndComplete : Obligations.SlotsComeInOrderOfKeyAndComplete := by
  unfold Obligations.SlotsComeInOrderOfKeyAndComplete
  refine ⟨fun p s hp hwindow => ⟨slotOf p.key s.stagger.intents, rfl, fun hk => ?_, fun hk => ?_⟩,
    fun p s hp htimer => ⟨fun hkind h => ?_, fun hkind h => ?_, fun hkind hactive houtcome hgrant => ?_, fun hkind hwheel => ?_⟩,
    fun s hp => ⟨?_, ?_⟩⟩
  · rw [exec_intentWindowExpiry_running hp hwindow, windowExpires, if_pos hk]
    exact (exec_slotTimerExpiry_running (s := { s with stagger := { s.stagger with slotTimer := some 0 } }) hp rfl).symm
  · rw [exec_intentWindowExpiry_running hp hwindow, windowExpires, if_neg hk]
    rfl
  · rw [exec_slotTimerExpiry_running hp htimer, hkind, completeChange_lapses]
    refine Bool.eq_false_iff.mpr fun hpasses => ?_
    obtain ⟨hactive, houtcome, hgrant⟩ := (econOpen_passes s).mp hpasses
    rcases h with h | h | h
    · exact h hactive
    · exact houtcome h
    · omega
  · rw [exec_slotTimerExpiry_running hp htimer, hkind, completeChange_lapses]
    simp [completionPasses, h]
  · have hexec := exec_slotTimerExpiry_running hp htimer
    rw [hkind, completeChange_econOpen ((econOpen_passes s).mpr ⟨hactive, houtcome, hgrant⟩)] at hexec
    refine ⟨_, hexec, by simp [applyMode_engine, completing], by simp [completing], fun hne => ?_, ?_⟩
    · exact economize_entered (s := completing s) hne (by simp [completing, hactive, Lifecycle.inService])
    · simp [completing]
  · have hexec := exec_slotTimerExpiry_running hp htimer
    rw [hkind, completeChange_wheelStart hwheel] at hexec
    obtain ⟨hother, hreading, hblind⟩ := speedRules_pair (e := { s.engine with applied := .recover, dwell := 0 }) s.cfg (s.reading .exhT)
      s.reconciler.reference.point true rfl rfl (recover_speed s)
    refine ⟨_, hexec, ?_, by simp [applyMode_engine, completing], by simp [applyMode_engine, completing],
      by simp [applyMode_engine, completing], by simp [completing], by simp [applyMode_engine, completing], hother,
      fun hheating x hx => ?_, fun hheating hnone => ?_, fun hne hrest => recover_wheel hne hrest, by simp [completing]⟩
    · rw [recover_speed, speedRules_inPair]
      rfl
    · obtain ⟨hcold, hband, hwarm, -⟩ := hreading hheating x hx
      refine ⟨hcold, fun hlt => ?_⟩
      by_cases hin : x < s.cfg.tf + s.cfg.frostBand
      · simpa using hband hlt hin
      · exact hwarm hlt (by omega) rfl
    · obtain ⟨hcold, hwarm⟩ := hblind hheating hnone
      refine ⟨fun hall => ?_, hwarm⟩
      obtain ⟨hspeed, hfrost, hrecover⟩ := hcold hall
      refine ⟨hspeed, ?_⟩
      split
      · exact hfrost ‹_›
      · exact hrecover (Nat.le_of_not_lt ‹_›)
  · change execIntentWindowExpiry s = _
    simp [execIntentWindowExpiry, hp]
  · change execSlotTimerExpiry s = _
    simp [execSlotTimerExpiry, hp]

end Sys2Proof.Machine
end


-- ==== Sys2Proof/Proofs/Clash.lean ====
section
/-! SUPPORT. ADDRESS_CLASH: the own address heard, and CLASH_TIMER_EXPIRY (spec/06 section 6.5, spec/09 section 9.4). -/

namespace Sys2Proof.Machine

variable {s t : State} {b : Budget}

/-! ### Shares of a station that may hold none, or has requested none (R97, R110) -/

/-- A current allocation gives a station without a request no share. -/
theorem CurrentFor.ownShare_zero (hs : CurrentFor b s) (htable : tableSound s) (h : ownEffective b s = 0) :
    (s.allocator.get b).ownShare = 0 := by
  obtain ⟨hparticipants, hshare⟩ := hs
  rw [hshare, hparticipants]
  refine shareOf_eq_zero fun p hp => ?_
  have haddress : p.address ∈ (participantsOf b s).map Participant.address := by
    rw [← map_divide (fun _ _ => rfl) (s.allocator.get b).value]
    exact List.mem_map_of_mem hp
  obtain ⟨q, hq, hqp⟩ := List.mem_map.mp haddress
  rw [← hqp]
  exact (participantsOf_members b htable).1 h q hq

theorem allocateBoth_grant (b : Budget) (s : State) :
    (allocateBoth s).grant b = min (s.grant b) ((allocateBoth s).allocator.get b).ownShare := by
  cases b
  · simp [State.grant, allocateBoth, allocate_get_other .wfc .relief _ (by decide), allocate_get]
  · simp [State.grant, allocateBoth, allocate_get_other .relief .wfc _ (by decide), allocate_get]

theorem allocateBoth_participants (b : Budget) (s : State) : ((allocateBoth s).allocator.get b).participants =
    divide (s.allocator.get b).value (participantsOf b (allocateBoth s)) := by
  rw [(currentFor_allocateBoth b s).1, sharesOf]
  simp [allocateBoth]

theorem ownEffective_allocateBoth (b : Budget) (s : State) : ownEffective b (allocateBoth s) = ownEffective b s :=
  ownEffective_frame b (by simp) (by simp) (by simp) (by simp) (by simp) (by simp)

theorem ownEffective_of_no_request (hrelief : s.engine.reliefRequest = 0) (hwfc : s.engine.wfcRequest = 0) (b : Budget) :
    ownEffective b s = 0 := by
  cases b <;> simp [ownEffective, Engine.request, hrelief, hwfc]

/-- The allocations made without an own request leave own share and grant 0 (R110). -/
theorem allocateBoth_zero (htable : tableSound s) (h : ownEffective b s = 0) :
    ((allocateBoth s).allocator.get b).ownShare = 0 ∧ (allocateBoth s).grant b = 0 := by
  have hshare : ((allocateBoth s).allocator.get b).ownShare = 0 :=
    (currentFor_allocateBoth b s).ownShare_zero (tableSound_congr htable (by simp) (by simp) (by simp)) (by rw [ownEffective_allocateBoth, h])
  exact ⟨hshare, by rw [allocateBoth_grant, hshare, Nat.min_zero]⟩

/-! ### The own address heard (R109, R167) -/

theorem checkFrame_own {f : Frame} (order : ReportOrder) (hvalid : frameValid f = true) (hown : frameSource f = s.startUp.address)
    (hconfig : s.startUp.lifecycle ≠ .config) (hservice : s.startUp.lifecycle ≠ .service) :
    checkFrame order f s = judgeClash (receiverTo .waitIdle s) := by
  rw [checkFrame, if_pos hvalid, takeValid, if_pos (show frameSource f = (receiverTo .waitIdle s).startUp.address ∧ _ from
    ⟨hown, hconfig, hservice⟩)]

/-- The reduction of R108 in ECONOMIZE: no grant is left, and the hold test forces BYPASS (R19). -/
theorem zeroGrant_relief_forces (happlied : s.engine.applied = .economize) (hgrant : 0 < s.grant .relief) :
    (zeroGrant .relief s).engine.applied = .bypass := by
  unfold zeroGrant reduceGrant
  dsimp only
  rw [if_pos (by simpa [State.grant] using hgrant), handOnGrant]
  simp only [evaluateFan_frame]
  rw [holdTest, if_pos]
  · rw [forcedChange_engine]
  · simp [happlied, holdCondition, State.grant, minShare, minUsefulShare]

theorem applied_allocate (b : Budget) (h : s.engine.applied = .bypass) : (allocate b s).engine.applied = .bypass := by
  rcases allocate_settles b s with hsame | ⟨hforced, -⟩
  · rw [hsame.engine, h]
  · exact hforced.applied

theorem zeroGrants_forces (happlied : s.engine.applied = .economize) (hgrant : 0 < s.grant .relief) :
    (zeroGrants s).engine.applied = .bypass := by
  refine applied_allocate .wfc (applied_allocate .relief ?_)
  have hwfc (u : State) : (zeroGrant .wfc u).engine = u.engine := by
    unfold zeroGrant reduceGrant handOnGrant
    dsimp only
    split <;> simp
  rw [hwfc, zeroGrant_relief_forces happlied hgrant]

/-- The clash that is new, before the zeroing of R109. -/
def clashNoted (s : State) : State :=
  setSticky .addressClash (refreshAlarm { s with bus := { s.bus with clashTimer := some (secs (10 * s.cfg.announcePeriod)), clash := true } })

theorem judgeClash_again (h : s.bus.clash = true) :
    judgeClash s = { s with bus := { s.bus with clashTimer := some (secs (10 * s.cfg.announcePeriod)) } } := by
  simp [judgeClash, h]

theorem judgeClash_new (h : s.bus.clash = false) : judgeClash s = zeroGrants (clashNoted s) := by
  simp [judgeClash, clashNoted, h]

/-- Both ways a clash stands from here, with its timer (R167). -/
theorem judgeClash_bus (s : State) :
    (judgeClash s).bus.clash = true ∧ (judgeClash s).bus.clashTimer = some (secs (10 * s.cfg.announcePeriod)) := by
  cases h : s.bus.clash
  · simp [judgeClash_new h, clashNoted]
  · simp [judgeClash_again h, h]

/-- A clash that is new zeroes grants and shares, and is a fault (R109, R189, R190). -/
theorem judgeClash_zeroes (h : s.bus.clash = false) (hconfig : s.startUp.lifecycle ≠ .config) (htable : tableSound s) :
    (judgeClash s).responder.sticky = { s.responder.sticky with addressClash := true } ∧ (judgeClash s).responder.alarm = true ∧
    ∀ b, (judgeClash s).grant b = 0 ∧ ((judgeClash s).allocator.get b).ownShare = 0 := by
  have hclash := (judgeClash_bus s).1
  rw [judgeClash_new h] at hclash ⊢
  refine ⟨by simp [clashNoted, FaultSet.insert], ?_, fun b => ⟨zeroGrants_grant b _, ?_⟩⟩
  · exact alarm_of_fault (alarm_aside.zeroGrants rfl) (by simpa [clashNoted] using hconfig) (faultsPresent_of_clash hclash)
  · refine (currentFor_allocateBoth b _).ownShare_zero (tableSound_congr htable ?_ ?_ ?_) (ownEffective_of_not_eligible ?_)
    all_goals simp [clashNoted, eligible]

/-! ### The end of a clash (R100, R110, R168) -/

/-- The state in which the allocations at the end of a clash are made. -/
def clashOver (s : State) : State :=
  if s.startUp.lifecycle = .active then
    clearRequests (refreshAlarm { s with bus := { s.bus with clashTimer := none, clash := false } })
  else refreshAlarm { s with bus := { s.bus with clashTimer := none, clash := false } }

theorem clashEnds_eq (s : State) : clashEnds s = allocateBoth (clashOver s) := rfl

@[simp] theorem clashOver_frame (s : State) :
    (clashOver s).startUp = s.startUp ∧ (clashOver s).table = s.table ∧ (clashOver s).allocator = s.allocator ∧
    (clashOver s).responder.sticky = s.responder.sticky ∧ (clashOver s).counters = s.counters ∧ (clashOver s).scanner = s.scanner ∧
    (clashOver s).reconciler = s.reconciler ∧ (clashOver s).bus.clash = false ∧ (clashOver s).bus.clashTimer = none := by
  unfold clashOver clearRequests
  split <;> simp

/-- Settles O52: a clash judged, new or again, and its end, whose allocations are those of R100. -/
theorem ownAddressHeardIsAClash : Obligations.OwnAddressHeardIsAClash := by
  unfold Obligations.OwnAddressHeardIsAClash
  refine ⟨fun c f order s hc hcan hwhole hvalid hown hconfig hservice => ?_, fun s htimer => ?_, fun s htimer => ?_⟩
  · obtain ⟨o, hexec⟩ := exec_frame order hc s
    rw [receiveBytes_whole o hcan hwhole, checkFrame_own o hvalid hown hconfig hservice] at hexec
    obtain ⟨hclash, hclashTimer⟩ := judgeClash_bus (receiverTo .waitIdle s)
    refine ⟨_, hexec, hclash, hclashTimer, by simp [receiverTo], by simp [receiverTo], by simp [receiverTo], by simp [receiverTo],
      by simp [receiverTo], by simp [receiverTo], by simp [receiverTo], by simp [receiverTo], fun hagain => ?_, fun hnew htable => ?_⟩
    · rw [judgeClash_again (s := receiverTo .waitIdle s) hagain]
      rfl
    · obtain ⟨hsticky, halarm, hzero⟩ := judgeClash_zeroes (s := receiverTo .waitIdle s) hnew hconfig htable
      refine ⟨hsticky, halarm, (hzero .relief).1, (hzero .wfc).1, (hzero .relief).2, (hzero .wfc).2, fun happlied hgrant => ?_⟩
      rw [judgeClash_new (s := receiverTo .waitIdle s) hnew]
      exact zeroGrants_forces (s := clashNoted (receiverTo .waitIdle s)) happlied hgrant
  · have hexec : exec .clashTimerExpiry s = .next (allocateBoth (clashOver s)) := by
      change execClashTimerExpiry s = _
      rw [execClashTimerExpiry, if_pos htimer, clashEnds_eq]
    have hgrant (b : Budget) : (clashOver s).grant b = s.grant b := by simp [State.grant]
    refine ⟨_, hexec, by simp, by simp, by simp, by simp, by simp, by simp, by simp, by simp, fun b => ?_, fun hactive => ?_,
      fun hnot b => ?_⟩
    · rw [allocateBoth_grant, hgrant, allocateBoth_participants, (clashOver_frame s).2.2.1]
      exact ⟨Nat.min_le_left _ _, rfl, rfl⟩
    · have hrelief : (clashOver s).engine.reliefRequest = 0 := by simp [clashOver, clearRequests, hactive]
      have hwfc : (clashOver s).engine.wfcRequest = 0 := by simp [clashOver, clearRequests, hactive]
      have hsound (htable : tableSound s) : tableSound (clashOver s) := tableSound_congr htable (by simp) (by simp) (by simp)
      exact ⟨by simp [hrelief], by simp [hwfc], fun htable b =>
        allocateBoth_zero (hsound htable) (ownEffective_of_no_request hrelief hwfc b)⟩
    · have hover : (clashOver s).engine = s.engine := by simp [clashOver, hnot]
      cases b <;> simp [Engine.request, hover]
  · change execClashTimerExpiry s = _
    rw [execClashTimerExpiry, if_neg htimer]

end Sys2Proof.Machine
end


-- ==== Sys2Proof/Proofs/Transmissions.lean ====
section
/-! SUPPORT. The outcomes of a transmission, by the slot of its frame (spec/09 section 9.3; R119, R165, R166, R181, R184). -/

namespace Sys2Proof.Machine

variable {s t : State} {x : Transmission}

/-! ### The end of a transmission (R162, R165, R166) -/

theorem exec_frameSentWhole_onAir (hair : s.bus.onAir = some x) (hbusy : s.bus.transmitter ≠ .quiet) :
    exec .frameSentWhole s = .next (frameSent x s) := by
  change execFrameSentWhole s = _
  simp [execFrameSentWhole, onLine, hbusy, hair]

theorem exec_frameAbandoned_onAir (hair : s.bus.onAir = some x) (hbusy : s.bus.transmitter ≠ .quiet) :
    exec .frameAbandoned s = .next (frameDropped x s) := by
  change execFrameAbandoned s = _
  simp [execFrameAbandoned, onLine, hbusy, hair]

theorem exec_warmRestart_onAir (sentWhole : Bool) (hair : s.bus.onAir = some x) (hbusy : s.bus.transmitter ≠ .quiet) :
    exec (.warmRestart sentWhole) s = .next
      (if x.slot = .reply ∧ s.startUp.restartPending = true ∧ byteAt x.frame 6 = 5 then
        if sentWhole = true then frameSent x s else frameDropped x s
      else s) := by
  change execWarmRestart sentWhole s = _
  simp [execWarmRestart, onLine, hbusy, hair]

theorem endTransmission_announce (r : Receiver) (remnant : Bool) (s : State) (h : x.slot = .announce) :
    endTransmission r remnant x s = { s with bus := { s.bus with
      transmitter := .quiet, receiver := r, remnant := remnant, onAir := none
      announceSlot := if x.inSlot = true then none else s.bus.announceSlot } } := by
  unfold endTransmission emptySlot
  cases x.inSlot <;> simp [h]

theorem endTransmission_intent (r : Receiver) (remnant : Bool) (s : State) (h : x.slot = .intent) :
    endTransmission r remnant x s = { s with bus := { s.bus with
      transmitter := .quiet, receiver := r, remnant := remnant, onAir := none
      intentSlot := if x.inSlot = true then none else s.bus.intentSlot } } := by
  unfold endTransmission emptySlot
  cases x.inSlot <;> simp [h]

theorem endTransmission_reply (r : Receiver) (remnant : Bool) (s : State) (h : x.slot = .reply) (hslot : x.inSlot = true) :
    endTransmission r remnant x s = { s with bus := { s.bus with
      transmitter := .quiet, receiver := r, remnant := remnant, onAir := none, replySlots := s.bus.replySlots.tail } } := by
  unfold endTransmission emptySlot
  simp [h, hslot]

/-! ### An ANNOUNCE (R165, R181) -/

/-- An ANNOUNCE that counts toward ACTIVE: in JOINING, with flag JOINING (R181). -/
def countsToward (x : Transmission) (s : State) : Bool := decide (s.startUp.lifecycle = .joining ∧ byteAt x.frame 6 / 64 = 0)

theorem announceSent_idle (h : countsToward x s = false) : announceSent x s = s := by
  rw [announceSent, if_neg (by simpa [countsToward] using h)]

theorem announceSent_counts (h : countsToward x s = true) (hfew : s.startUp.ownCount < 2) :
    announceSent x s = { s with startUp := { s.startUp with ownCount := s.startUp.ownCount + 1 } } := by
  rw [announceSent, if_pos (by simpa [countsToward] using h)]
  dsimp only
  rw [if_neg (by omega), Nat.min_eq_right (by omega)]

/-- The third one enters ACTIVE (R181). -/
theorem announceSent_third (h : countsToward x s = true) (hmany : 2 ≤ s.startUp.ownCount) :
    announceSent x s = enterActive { s with startUp := { s.startUp with ownCount := 3 } } := by
  rw [announceSent, if_pos (by simpa [countsToward] using h)]
  dsimp only
  rw [if_pos (by omega), Nat.min_eq_left (by omega)]

/-- The state in which the allocations on entry to ACTIVE are made (R110, R181). -/
def activated (s : State) : State := clearRequests (setLifecycle .active s)

@[simp] theorem activated_frame (s : State) :
    (activated s).startUp = { s.startUp with lifecycle := .active } ∧ (activated s).table = s.table ∧
    (activated s).allocator = s.allocator ∧ (activated s).responder.sticky = s.responder.sticky ∧
    (activated s).counters = s.counters ∧ (activated s).scanner = s.scanner ∧ (activated s).reconciler = s.reconciler ∧
    (activated s).bus = s.bus ∧ (activated s).engine.reliefRequest = 0 ∧ (activated s).engine.wfcRequest = 0 := by
  simp [activated, clearRequests, setLifecycle]

/-- Settles O58: the three outcomes of an ANNOUNCE, and no transmission. -/
theorem announceOutcomesCountTowardActive : Obligations.AnnounceOutcomesCountTowardActive := by
  unfold Obligations.AnnounceOutcomesCountTowardActive
  refine ⟨fun x s hair hbusy hslot => ⟨_, countsToward x s, rfl, by simp [countsToward], fun hcounts => ?_, fun hcounts hfew => ?_,
    fun hcounts hmany => ?_⟩, fun x s hair hbusy hslot => ?_, fun s h => ?_⟩
  · rw [exec_frameSentWhole_onAir hair hbusy, frameSent, reportSent, hslot, endTransmission_announce _ _ _ hslot]
    exact congrArg _ (announceSent_idle hcounts)
  · rw [exec_frameSentWhole_onAir hair hbusy, frameSent, reportSent, hslot, endTransmission_announce _ _ _ hslot]
    exact congrArg _ (announceSent_counts hcounts hfew)
  · refine ⟨enterActive { endTransmission .waitIdle false x s with startUp := { s.startUp with ownCount := 3 } }, ?_, ?_⟩
    · rw [exec_frameSentWhole_onAir hair hbusy, frameSent, reportSent, hslot, endTransmission_announce _ _ _ hslot]
      exact congrArg _ (announceSent_third hcounts hmany)
    rw [endTransmission_announce _ _ _ hslot]
    generalize hu : ({ s with
      bus := _, startUp := { s.startUp with ownCount := 3 } } : State) = u
    have hentered : enterActive u = allocateBoth (activated u) := rfl
    have hgrant (b : Budget) : (activated u).grant b = s.grant b := by simp [State.grant, ← hu]
    rw [hentered]
    refine ⟨by simp [← hu], fun b => ?_, by simp, by simp, fun htable b => ?_, by simp [← hu], by simp [← hu], by simp [← hu],
      by simp [← hu], by simp [← hu], by simp [← hu], by simp [← hu], by simp [← hu]⟩
    · rw [allocateBoth_grant, hgrant, allocateBoth_participants, (activated_frame u).2.2.1, ← hu]
      exact ⟨rfl, rfl⟩
    · have hsound : tableSound (activated u) := tableSound_congr htable (by simp [← hu]) (by simp [← hu]) (by simp)
      exact allocateBoth_zero hsound (ownEffective_of_no_request (by simp) (by simp) b)
  · rw [exec_frameAbandoned_onAir hair hbusy, frameDropped, reportAbandoned, hslot, endTransmission_announce _ _ _ hslot]
    rfl
  · have hline : onLine s = none := by
      unfold onLine
      rcases h with h | h <;> simp [h]
    refine ⟨?_, ?_⟩
    · change execFrameSentWhole s = _
      rw [execFrameSentWhole, hline]
    · change execFrameAbandoned s = _
      rw [execFrameAbandoned, hline]

/-! ### An INTENT (R118, R119, R124, R125) -/

theorem reportSent_intent (hslot : x.slot = .intent) :
    reportSent x s = if x.inSlot = true then openWindow s else s := by rw [reportSent, hslot]

theorem reportAbandoned_intent (hslot : x.slot = .intent) :
    reportAbandoned x s = if x.inSlot = true then intentAbandoned s else s := by rw [reportAbandoned, hslot]

theorem openWindow_pending {p : Pending} (hp : s.stagger.pending = some p) : openWindow s = { s with
    stagger := { s.stagger with pending := some { p with phase := .window }, windowTimer := some (secs s.cfg.intentWindow) } } := by
  simp [openWindow, hp]

theorem openWindow_none (hp : s.stagger.pending = none) : openWindow s = s := by simp [openWindow, hp]

theorem intentAbandoned_first {p : Pending} (hp : s.stagger.pending = some p) (hfirst : p.resendUsed = false) :
    intentAbandoned s = { s with
      stagger := { s.stagger with pending := some { p with resendUsed := true }, backoff := some (s.startUp.address * 10) } } := by
  simp [intentAbandoned, hp, hfirst]

theorem intentAbandoned_second {p : Pending} (hp : s.stagger.pending = some p) (hsecond : p.resendUsed = true) :
    intentAbandoned s = { s with
      stagger := { s.stagger with pending := some { p with phase := .window }, windowTimer := some (secs s.cfg.intentWindow) } } := by
  simp [intentAbandoned, hp, hsecond, openWindow_pending hp]

theorem intentAbandoned_none (hp : s.stagger.pending = none) : intentAbandoned s = s := by simp [intentAbandoned, hp]

/-- The frame of an offered slot begins on an idle line (R163). -/
theorem beginFrame_offered {slot : Slot} {f : Frame} (hreceiver : s.bus.receiver = .idle) (hquiet : s.bus.transmitter = .quiet)
    (hstuck : s.bus.stuck = false) (hoffered : offered s = some (slot, f)) : beginFrame s = { s with
      bus := { s.bus with
        transmitter := .contending, receiver := .collecting, onAir := some { slot := slot, frame := f, inSlot := true } } } := by
  simp [beginFrame, hreceiver, hquiet, hstuck, hoffered]

theorem beginFrame_of_none (hoffered : offered s = none) : beginFrame s = s := by
  unfold beginFrame
  rw [hoffered, ite_self]

theorem beginFrame_of_busy (h : s.bus.receiver ≠ .idle ∨ s.bus.transmitter ≠ .quiet ∨ s.bus.stuck = true) : beginFrame s = s := by
  rw [beginFrame, if_neg]
  rintro ⟨hreceiver, hquiet, hstuck⟩
  rcases h with h | h | h
  · exact h hreceiver
  · exact h hquiet
  · simp [h] at hstuck

theorem offered_intent {f : Frame} (hservice : s.startUp.lifecycle.inService = true) (hintent : s.bus.intentSlot = some f) :
    offered s = some (.intent, f) := by simp [offered, hservice, hintent]

theorem offered_announce {f : Frame} (hservice : s.startUp.lifecycle.inService = true) (hintent : s.bus.intentSlot = none)
    (hannounce : s.bus.announceSlot = some f) : offered s = some (.announce, f) := by simp [offered, hservice, hintent, hannounce]

/-- A frame begun is a matter of the bus alone. -/
theorem beginFrame_bus (s : State) : beginFrame s = { s with bus := (beginFrame s).bus } := by
  rcases beginFrame_cases s with h | ⟨slot, f, -, -, -, -, h⟩ <;> rw [h]

/-- An INTENT placed on an idle line begins (R163). -/
theorem placeIntent_idle {f : Frame} (hreceiver : s.bus.receiver = .idle) (hquiet : s.bus.transmitter = .quiet)
    (hstuck : s.bus.stuck = false) (hservice : s.startUp.lifecycle.inService = true) :
    (placeIntent f s).bus.transmitter = .contending ∧
    (placeIntent f s).bus.onAir = some { slot := .intent, frame := f, inSlot := true } := by
  have hbegins := beginFrame_offered
    (s := { s with bus := { s.bus with intentSlot := some f, onAir := displaced .intent s.bus.onAir } }) hreceiver hquiet hstuck
    (offered_intent hservice rfl)
  rw [placeIntent, hbegins]
  exact ⟨rfl, rfl⟩

/-- Settles O59: an INTENT in its slot opens the window or waits its backoff; any other is disregarded. -/
theorem intentOutcomesOpenTheWindow : Obligations.IntentOutcomesOpenTheWindow := by
  unfold Obligations.IntentOutcomesOpenTheWindow
  refine ⟨fun x p s hair hbusy hslot hp => ⟨_, _, _, rfl, rfl, rfl, fun hin => ?_, fun hin hfirst => ?_, fun hin hsecond => ?_,
    fun hout => ⟨?_, ?_⟩⟩, fun x s hair hbusy hslot hp => ⟨_, rfl, ?_, ?_⟩, fun p s hp hbackoff => ?_, fun s h => ?_⟩
  · rw [exec_frameSentWhole_onAir hair hbusy, frameSent, reportSent_intent hslot, if_pos hin, endTransmission_intent _ _ _ hslot]
    exact congrArg _ (openWindow_pending hp)
  · rw [exec_frameAbandoned_onAir hair hbusy, frameDropped, reportAbandoned_intent hslot, if_pos hin, endTransmission_intent _ _ _ hslot]
    exact congrArg _ (intentAbandoned_first hp hfirst)
  · rw [exec_frameAbandoned_onAir hair hbusy, frameDropped, reportAbandoned_intent hslot, if_pos hin, endTransmission_intent _ _ _ hslot]
    exact congrArg _ (intentAbandoned_second hp hsecond)
  · rw [exec_frameSentWhole_onAir hair hbusy, frameSent, reportSent_intent hslot, if_neg (by simp [hout]),
      endTransmission_intent _ _ _ hslot]
  · rw [exec_frameAbandoned_onAir hair hbusy, frameDropped, reportAbandoned_intent hslot, if_neg (by simp [hout]),
      endTransmission_intent _ _ _ hslot]
    rfl
  · rw [exec_frameSentWhole_onAir hair hbusy, frameSent, reportSent_intent hslot, openWindow_none, ite_self,
      endTransmission_intent _ _ _ hslot]
    rw [endTransmission_intent _ _ _ hslot]
    exact hp
  · rw [exec_frameAbandoned_onAir hair hbusy, frameDropped, reportAbandoned_intent hslot, intentAbandoned_none, ite_self,
      endTransmission_intent _ _ _ hslot]
    · rfl
    · rw [endTransmission_intent _ _ _ hslot]
      exact hp
  · obtain ⟨n, hn⟩ := Option.isSome_iff_exists.mp hbackoff
    have hexec : exec .backoffTimerExpiry s = .next
        (placeIntent (intentFrame s p.kind) { s with stagger := { s.stagger with backoff := none } }) := by
      change execBackoffTimerExpiry s = _
      simp [execBackoffTimerExpiry, hp, hn]
    refine ⟨_, _, hexec, rfl, by simp [placeIntent], by simp [placeIntent, intentFrame],
      fun hreceiver hquiet hstuck hservice => ?_, ?_⟩
    · exact placeIntent_idle (s := { s with stagger := { s.stagger with backoff := none } }) hreceiver hquiet hstuck hservice
    · rw [placeIntent, beginFrame_bus]
  · change execBackoffTimerExpiry s = _
    rcases h with h | h <;> simp [execBackoffTimerExpiry, h]

/-! ### A REPLY (R162, R184) -/

/-- The REPLY takes the pending restart (R184). -/
theorem replyOutcome_restarts (hpending : s.startUp.restartPending = true) (hreply : byteAt x.frame 6 = 5) :
    replyOutcome x s = warmStart s := if_pos ⟨hpending, hreply⟩

theorem replyOutcome_idle (h : s.startUp.restartPending = false ∨ byteAt x.frame 6 ≠ 5) : replyOutcome x s = s :=
  if_neg fun ⟨hpending, hreply⟩ => by
  rcases h with h | h
  · simp [h] at hpending
  · exact h hreply

/-- What the end of a transmission leaves of the state a restart reads, and the frames abandoned (R166, R184). -/
structure RestartFrom (s : State) (abandoned : Prop) [Decidable abandoned] (u : State) : Prop where
  startUp : u.startUp = s.startUp
  output : u.output = s.output
  fan : u.fan = s.fan
  sticky : u.responder.sticky = s.responder.sticky
  freeDraws : u.freeDraws = s.freeDraws
  counters : u.counters = { s.counters with
    framesAbandoned := if abandoned then min 65535 (s.counters.framesAbandoned + 1) else s.counters.framesAbandoned }

/-- The REPLY that answers an RSTW, sent whole or abandoned, is a restart (R184). -/
theorem frameSent_restarts (hslot : x.slot = .reply) (hpending : s.startUp.restartPending = true) (hreply : byteAt x.frame 6 = 5) :
    (∃ u, frameSent x s = warmStart u ∧ RestartFrom s False u) ∧ (∃ u, frameDropped x s = warmStart u ∧ RestartFrom s True u) := by
  refine ⟨⟨endTransmission .waitIdle false x s, ?_, ?_⟩, ⟨endTransmission .collecting true x (countAbandoned s), ?_, ?_⟩⟩
  · rw [frameSent, reportSent, hslot]
    exact replyOutcome_restarts (by simpa using hpending) hreply
  · constructor <;> simp
  · rw [frameDropped, reportAbandoned, hslot]
    exact replyOutcome_restarts (by simpa using hpending) hreply
  · constructor <;> simp [countAbandoned, bump, satInc]

/-- A restart by any of its four commands. -/
theorem exec_restarts {c : Instr} (hair : s.bus.onAir = some x) (hbusy : s.bus.transmitter ≠ .quiet) (hslot : x.slot = .reply)
    (hpending : s.startUp.restartPending = true) (hreply : byteAt x.frame 6 = 5)
    (hc : c = .frameSentWhole ∨ c = .frameAbandoned ∨ c = .warmRestart true ∨ c = .warmRestart false) :
    ∃ u, exec c s = .next (warmStart u) ∧ RestartFrom s (c = .frameAbandoned ∨ c = .warmRestart false) u := by
  obtain ⟨⟨u, hu, hsent⟩, ⟨v, hv, hdropped⟩⟩ := frameSent_restarts hslot hpending hreply
  have htaken : x.slot = .reply ∧ s.startUp.restartPending = true ∧ byteAt x.frame 6 = 5 := ⟨hslot, hpending, hreply⟩
  rcases hc with rfl | rfl | rfl | rfl
  · exact ⟨u, by rw [exec_frameSentWhole_onAir hair hbusy, hu], by simpa using hsent⟩
  · exact ⟨v, by rw [exec_frameAbandoned_onAir hair hbusy, hv], by simpa using hdropped⟩
  · exact ⟨u, by rw [exec_warmRestart_onAir true hair hbusy, if_pos htaken, if_pos rfl, hu], by simpa using hsent⟩
  · exact ⟨v, by rw [exec_warmRestart_onAir false hair hbusy, if_pos htaken, if_neg (by simp), hv], by simpa using hdropped⟩

theorem alarm_warmStart (u : State) : (warmStart u).responder.alarm = true :=
  alarm_of_fault (s := warmStart u) rfl (by simp [warmStart, enterListen, setLifecycle])
    (faultsPresent_of_reference (by simp [warmStart, startReconciler]) (by simp [warmStart, enterListen, setLifecycle]))

/-- Settles O60: the slot left to the younger REPLY, the table of R184, and no REPLY that restarts. -/
theorem restartIsTakenAtItsReply : Obligations.RestartIsTakenAtItsReply := by
  unfold Obligations.RestartIsTakenAtItsReply
  refine ⟨fun x s hair hbusy hslot hin hnot => ⟨?_, ?_, fun sentWhole => ?_⟩, fun x c s hair hbusy hslot hpending hreply hc => ?_,
    fun sentWhole s h => ?_⟩
  · rw [exec_frameSentWhole_onAir hair hbusy, frameSent, reportSent, hslot, endTransmission_reply _ _ _ hslot hin]
    exact congrArg _ (replyOutcome_idle hnot)
  · rw [exec_frameAbandoned_onAir hair hbusy, frameDropped, reportAbandoned, hslot, endTransmission_reply _ _ _ hslot hin]
    exact congrArg _ (replyOutcome_idle hnot)
  · rw [exec_warmRestart_onAir sentWhole hair hbusy, if_neg]
    rintro ⟨-, hpending, hreply⟩
    rcases hnot with h | h
    · simp [h] at hpending
    · exact h hreply
  · obtain ⟨u, hexec, hstartUp, houtput, hfan, hsticky, hdraws, hcounters⟩ := exec_restarts hair hbusy hslot hpending hreply hc
    have hcfg : u.startUp.settings = s.startUp.settings := by rw [hstartUp]
    have hresponder : (warmStart u).responder = { sticky := s.responder.sticky, alarm := true } := by
      rw [← hsticky, ← alarm_warmStart u, ← (warmStart_frame u).2.2.2.2.1]
    refine ⟨_, hexec, by simp [warmStart, startScanTimer, enterListen, setLifecycle, hstartUp],
      by simp [warmStart, startScanTimer, enterListen, setLifecycle, hstartUp, State.cfg], rfl, rfl,
      by simp [warmStart, hstartUp, State.cfg], rfl, by simp [warmStart, hstartUp, State.cfg], rfl, by simp [warmStart, hfan],
      by simp [warmStart, enterListen, setLifecycle, hcfg, State.cfg], rfl, rfl, rfl, rfl, rfl, rfl, rfl,
      by simp [warmStart, hcfg, State.cfg, safeOutput, startOutput], by simp [warmStart, hcfg, State.cfg, safeOutput, safeDamper, houtput],
      by simp [warmStart, hcfg, State.cfg, safeOutput, safeDamper, houtput], hresponder, by simp [hcounters], by simp [hdraws]⟩
  · change execWarmRestart sentWhole s = _
    rcases h with h | h | h
    · simp [execWarmRestart, onLine, h]
    · simp [execWarmRestart, onLine, h]
    · unfold execWarmRestart
      split <;> simp [h]

end Sys2Proof.Machine
end


-- ==== Sys2Proof/Proofs/Line.lean ====
section
/-! SUPPORT. Events of the line, and the announcement timer (spec/09 section 9.1 and section 9.3). -/

namespace Sys2Proof.Machine

variable {s t : State}

/-! ### The receiver (R154, R166) -/

theorem discardIncomplete_eq (r : Receiver) (s : State) : discardIncomplete r s = { s with
    bus := { s.bus with receiver := r, remnant := false }
    counters := { s.counters with
      crcErrors := if s.bus.remnant = true then s.counters.crcErrors else min 65535 (s.counters.crcErrors + 1) } } := by
  unfold discardIncomplete receiverTo
  cases s.bus.remnant <;> simp [countCrcError, bump, satInc]

/-- The line falls idle with the receiver on (R154). -/
theorem receiverIdles_eq (h : s.bus.receiver ≠ .off) : receiverIdles s = { s with
    bus := { s.bus with receiver := .idle, remnant := false }
    counters := { s.counters with
      crcErrors :=
        if s.bus.receiver = .collecting ∧ s.bus.remnant = false then min 65535 (s.counters.crcErrors + 1)
        else s.counters.crcErrors } } := by
  unfold receiverIdles
  cases hr : s.bus.receiver
  case off => exact absurd hr h
  case collecting =>
    dsimp only
    rw [discardIncomplete_eq]
    cases s.bus.remnant <;> rfl
  all_goals simp [receiverTo]

theorem exec_lineIdle (hquiet : s.bus.transmitter = .quiet) (hreceiver : s.bus.receiver ≠ .off) :
    exec .lineIdle s = .next (beginFrame (receiverIdles (if s.bus.stuck then setStuck false s else s))) := by
  change execLineIdle s = _
  rw [execLineIdle, if_pos ⟨hreceiver, hquiet⟩]

theorem offered_reply {f : Frame} (hservice : s.startUp.lifecycle.inService = true) (hintent : s.bus.intentSlot = none)
    (hannounce : s.bus.announceSlot = none) (hreply : s.bus.replySlots.head? = some f) : offered s = some (.reply, f) := by
  obtain ⟨l, hl⟩ := List.head?_eq_some_iff.mp hreply
  simp [offered, hservice, hintent, hannounce, hl]

/-- LISTEN offers its replies alone (R172). -/
theorem offered_listen {f : Frame} (hlisten : s.startUp.lifecycle = .listen) (hreply : s.bus.replySlots.head? = some f) :
    offered s = some (.reply, f) := by
  obtain ⟨l, hl⟩ := List.head?_eq_some_iff.mp hreply
  simp [offered, hlisten, hl, Lifecycle.inService]

/-- What a station offers follows its lifecycle state and its slots (R163, R172). -/
theorem offered_congr (hlifecycle : t.startUp.lifecycle = s.startUp.lifecycle) (hintent : t.bus.intentSlot = s.bus.intentSlot)
    (hannounce : t.bus.announceSlot = s.bus.announceSlot) (hreplies : t.bus.replySlots = s.bus.replySlots) : offered t = offered s := by
  unfold offered
  rw [hlifecycle, hintent, hannounce, hreplies]

/-- The line that is not stuck falls idle: the frame offered begins, or the receiver is IDLE (R154, R163). -/
theorem exec_lineIdle_free (hquiet : s.bus.transmitter = .quiet) (hreceiver : s.bus.receiver ≠ .off) (hstuck : s.bus.stuck = false) :
    exec .lineIdle s = .next (beginFrame (receiverIdles s)) := by
  rw [exec_lineIdle hquiet hreceiver, if_neg (by simp [hstuck])]

theorem offered_receiverIdles (hreceiver : s.bus.receiver ≠ .off) : offered (receiverIdles s) = offered s := by
  rw [receiverIdles_eq hreceiver]
  rfl

theorem beginFrame_receiverIdles {slot : Slot} {f : Frame} (hquiet : s.bus.transmitter = .quiet) (hreceiver : s.bus.receiver ≠ .off)
    (hstuck : s.bus.stuck = false) (hoffered : offered s = some (slot, f)) : beginFrame (receiverIdles s) = { s with
      bus := { s.bus with
        receiver := .collecting, remnant := false, transmitter := .contending
        onAir := some { slot := slot, frame := f, inSlot := true } }
      counters := { s.counters with
        crcErrors :=
          if s.bus.receiver = .collecting ∧ s.bus.remnant = false then min 65535 (s.counters.crcErrors + 1)
          else s.counters.crcErrors } } := by
  have hidles := receiverIdles_eq hreceiver
  rw [beginFrame_offered (by rw [hidles]) (by rw [hidles, hquiet]) (by rw [hidles, hstuck])
    ((offered_receiverIdles hreceiver).trans hoffered), hidles]

/-! ### BUS_STUCK (R130, R155) -/

@[simp] theorem setStuck_bus (v : Bool) (s : State) : (setStuck v s).bus = { s.bus with stuck := v } := by simp [setStuck]

/-- The suspension that a stuck line begins: the fan keeps its state, and RELIEF_RUN goes by the isolation policy (R130). -/
theorem setStuck_suspends (howner : s.cfg.fanOwner = true) (hservice : s.startUp.lifecycle.inService = true) :
    (setStuck true s).fan.suspended = true ∧ (setStuck true s).fan.state = s.fan.state ∧
    (setStuck true s).fan.offDelay = s.fan.offDelay ∧
    (s.fan.suspended = false →
      (s.cfg.isolationPolicy = .hold → (setStuck true s).fan.reliefRun = s.fan.reliefRun) ∧
      (s.cfg.isolationPolicy = .default → (setStuck true s).fan.reliefRun = s.cfg.fanDefaultOn)) := by
  unfold setStuck
  generalize hu : refreshAlarm { s with bus := { s.bus with stuck := true } } = u
  have hactive : fanActive u = true := by simpa [fanActive, ← hu, State.cfg, hservice] using howner
  have hdue : suspensionDue u = true := by simp [suspensionDue, ← hu]
  have hfan : u.fan = s.fan := by simp [← hu]
  have hcfg : u.cfg = s.cfg := by simp [← hu, State.cfg]
  unfold fanFollows
  rw [if_pos hactive, hdue, hfan]
  cases hsuspended : s.fan.suspended
  · simp only [Bool.not_false, Bool.and_self, if_true, suspendFan, hfan, hcfg, true_and]
    exact fun _ => ⟨fun h => by rw [h], fun h => by rw [h]⟩
  · simp [hfan, hsuspended]

/-- Settles O53: the table of R154 by command, what an idle line begins, and BUS_STUCK from its first appearance to its end. -/
theorem lineEventsMoveReceiverAndTransmitter : Obligations.LineEventsMoveReceiverAndTransmitter := by
  unfold Obligations.LineEventsMoveReceiverAndTransmitter
  refine ⟨fun s hquiet => ⟨fun h => ?_, fun h => ?_, fun h c hc => ?_, fun h => ⟨?_, ?_⟩⟩, fun s hquiet hreceiver hstuck => ?_,
    fun s hquiet hreceiver hstuck => ?_, fun s h => ?_, fun s hreceiver hstuck => ?_, fun s h => ?_⟩
  · change execStartBit s = _
    rw [execStartBit, if_pos ⟨h, hquiet⟩]
  · change execStartBit s = _
    rw [execStartBit, if_neg fun h' => h h'.1]
  · have hexec : exec c s = .next (collectingFails s) := by rcases hc with rfl | rfl <;> rfl
    rw [hexec, collectingFails, if_pos ⟨h, hquiet⟩, discardIncomplete_eq]
  · change execFramingError s = _
    rw [execFramingError, collectingFails, if_neg fun h' => h h'.1]
  · change execBadLength s = _
    rw [execBadLength, collectingFails, if_neg fun h' => h h'.1]
  · refine ⟨_, _, rfl, rfl, fun slot f hslot => ?_, fun hnone => ?_⟩
    · have hoffered : offered s = some (slot, f) := by
        rcases hslot with ⟨hservice, rfl, hintent⟩ | ⟨hservice, hintent, rfl, hannounce⟩ | ⟨hservice, hintent, hannounce, rfl, hreply⟩ |
          ⟨hlisten, rfl, hreply⟩
        · exact offered_intent hservice hintent
        · exact offered_announce hservice hintent hannounce
        · exact offered_reply hservice hintent hannounce hreply
        · exact offered_listen hlisten hreply
      rw [exec_lineIdle_free hquiet hreceiver hstuck, beginFrame_receiverIdles hquiet hreceiver hstuck hoffered]
    · have hoffered : offered s = none := by
        refine (offered_eq_none_iff s).mpr ⟨fun hservice => ?_, fun hlisten => ?_⟩
        · rcases hnone with ⟨-, hempty⟩ | ⟨hout, -⟩
          · exact hempty
          · exact absurd (hservice.symm.trans hout) nofun
        · rcases hnone with ⟨-, -, -, hempty⟩ | ⟨-, hempty⟩
          · exact hempty
          · exact hempty hlisten
      rw [exec_lineIdle_free hquiet hreceiver hstuck, beginFrame_of_none ((offered_receiverIdles hreceiver).trans hoffered),
        receiverIdles_eq hreceiver]
  · have hidles := receiverIdles_eq (s := setStuck false s) (by simpa using hreceiver)
    have hoffered : offered (receiverIdles (setStuck false s)) = offered s := by
      rw [offered_receiverIdles (by simpa using hreceiver)]
      exact offered_congr (by simp) (by simp) (by simp) (by simp)
    have hexec := exec_lineIdle hquiet hreceiver
    rw [if_pos hstuck] at hexec
    refine ⟨_, hexec, by simp [hidles], fun hnone => ?_, fun hsome => ?_, fun howner hservice hisolated => ?_, ?_⟩
    · rw [beginFrame_of_none (hoffered.trans hnone), hidles]
      exact ⟨rfl, by simpa using hquiet⟩
    · obtain ⟨⟨slot, f⟩, hsome⟩ := Option.ne_none_iff_exists'.mp hsome
      rw [beginFrame_offered (by simp [hidles]) (by simpa [hidles] using hquiet) (by simp [hidles]) (hoffered.trans hsome)]
      exact ⟨rfl, rfl⟩
    · rw [(beginFrame_frame _).2.2.2.2.2.2.2.2.1, hidles]
      refine (fanFollows_suspended ?_).trans ?_
      · simpa [fanActive, State.cfg, hservice] using howner
      · simp [suspensionDue, hisolated]
    · simp [hidles]
  · change execLineIdle s = _
    rw [execLineIdle, if_neg]
    rintro ⟨hreceiver, hquiet⟩
    rcases h with h | h
    · exact hreceiver h
    · exact h hquiet
  · have hexec : exec .busStuck s = .next (setStuck true (setSticky .busStuck s)) := by
      change execBusStuck s = _
      rw [execBusStuck, if_pos ⟨hreceiver, hstuck⟩]
    have hsuspends := setStuck_suspends (s := setSticky .busStuck s)
    refine ⟨_, hexec, by simp [setSticky], by simp [setSticky, FaultSet.insert], fun hconfig => ?_, fun howner hservice => ?_,
      fun howner hservice hsuspended => ?_, by simp⟩
    · exact alarm_of_fault (alarm_aside.safe.fanFollows rfl) (by simpa using hconfig) (faultsPresent_of_stuck (by simp))
    · obtain ⟨hsuspended, hstate, hdelay, -⟩ := hsuspends howner hservice
      exact ⟨hsuspended, hstate, hdelay⟩
    · obtain ⟨-, -, -, hpolicy⟩ := hsuspends howner hservice
      exact hpolicy hsuspended
  · change execBusStuck s = _
    rw [execBusStuck, if_neg]
    rintro ⟨hreceiver, hstuck⟩
    rcases h with h | h
    · exact hreceiver h
    · simp [h] at hstuck

/-! ### The announcement timer (R160, R162, R163) -/

/-- The state whose snapshot an expiry takes: the timer restarted, the sequence counter risen (R160). -/
def announcing (s : State) : State := { s with
  bus := { s.bus with announceTimer := some (secs s.cfg.announcePeriod), sequence := (s.bus.sequence + 1) % 256 } }

/-- The frame of the snapshot. -/
def announceFrame (s : State) : Frame := buildFrame .announce s.startUp.address (announceBody (snapshot (announcing s)))

theorem exec_announcementTimerExpiry_running (h : s.bus.announceTimer.isSome = true) :
    exec .announcementTimerExpiry s = .next (placeAnnounce (announceFrame s) (announcing s)) := by
  change execAnnouncementTimerExpiry s = _
  rw [execAnnouncementTimerExpiry, if_pos h]
  rfl

/-- An ANNOUNCE placed on an idle line begins, unless an INTENT waits (R163). -/
theorem placeAnnounce_idle {f : Frame} (hreceiver : s.bus.receiver = .idle) (hquiet : s.bus.transmitter = .quiet)
    (hstuck : s.bus.stuck = false) (hservice : s.startUp.lifecycle.inService = true) (hintent : s.bus.intentSlot = none) :
    (placeAnnounce f s).bus.transmitter = .contending ∧ (placeAnnounce f s).bus.receiver = .collecting ∧
    (placeAnnounce f s).bus.onAir = some { slot := .announce, frame := f, inSlot := true } := by
  have hbegins := beginFrame_offered
    (s := { s with bus := { s.bus with announceSlot := some f, onAir := displaced .announce s.bus.onAir } }) hreceiver hquiet hstuck
    (offered_announce hservice hintent rfl)
  rw [placeAnnounce, hbegins]
  exact ⟨rfl, rfl, rfl⟩

/-- On a busy line it waits, and one in transmission goes on without the slot (R162). -/
theorem placeAnnounce_busy {f : Frame} (h : s.bus.receiver ≠ .idle ∨ s.bus.transmitter ≠ .quiet ∨ s.bus.stuck = true) :
    placeAnnounce f s = { s with bus := { s.bus with announceSlot := some f, onAir := displaced .announce s.bus.onAir } } :=
  beginFrame_of_busy h

/-- Settles O54: the snapshot, and the ANNOUNCE slot that it takes. -/
theorem announcementSnapshotsTheStation : Obligations.AnnouncementSnapshotsTheStation := by
  unfold Obligations.AnnouncementSnapshotsTheStation
  refine ⟨fun s htimer => ⟨_, snapshot (announcing s), announceFrame s, exec_announcementTimerExpiry_running htimer, rfl,
    fun h => ?_, fun h => ?_, fun h => ?_, rfl, rfl, rfl, rfl, rfl, fun h => ?_, fun x y hx hy => ?_, rfl, rfl, rfl, rfl,
    by simp [placeAnnounce], by simp [placeAnnounce, announcing], by simp [placeAnnounce, announcing],
    by simp [placeAnnounce, announcing], by simp [placeAnnounce, announcing],
    fun hreceiver hquiet hstuck hservice hintent => placeAnnounce_idle (s := announcing s) hreceiver hquiet hstuck hservice hintent,
    fun hbusy => ?_, ?_⟩, fun s htimer => ?_⟩
  · change flagNow s.startUp.lifecycle = _
    rw [h, flagNow]
  · change flagNow s.startUp.lifecycle = _
    rw [h, flagNow]
  · change flagNow s.startUp.lifecycle = _
    rw [h, flagNow]
  · change ownObservation s = none
    unfold ownObservation
    rcases h with h | h
    · rw [h]
    · rw [h]
      cases s.reading .outT <;> rfl
  · change ownObservation s = _
    rw [ownObservation, hx, hy]
  · rw [placeAnnounce_busy (s := announcing s) hbusy]
    refine ⟨rfl, rfl, fun x hx hslot => ?_⟩
    change displaced .announce s.bus.onAir = _
    rw [Option.mem_def.mp hx, displaced, Option.map_some, if_pos hslot]
  · rw [placeAnnounce, beginFrame_bus]
    rfl
  · change execAnnouncementTimerExpiry s = _
    rw [execAnnouncementTimerExpiry, if_neg (by simp [htimer])]

end Sys2Proof.Machine
end


-- ==== Sys2Proof/Proofs/Queries.lean ====
section
/-! SUPPORT. The queries to this station: dropped, ignored, or answered with an action of R187 (spec/11). -/

namespace Sys2Proof.Machine

variable {s t : State} {source : Addr}

/-! ### Taking a query (R159, R186) -/

/-- The action of each query command. -/
theorem exec_query {c : Instr} {argument : Half} {kind : Byte}
    (hc : c = .rdst source argument ∨ c = .rdct source argument ∨ c = .rdpr source argument ∨ c = .clrc source argument ∨
      c = .rstw source argument ∨ c = .fbyp source argument ∨ c = .frel source argument ∨ c = .clst source argument ∨
      c = .unknown source kind argument) (s : State) : ∃ code act, exec c s = .next (receiveQuery source code act s) := by
  rcases hc with rfl | rfl | rfl | rfl | rfl | rfl | rfl | rfl | rfl <;> exact ⟨_, _, rfl⟩

theorem receiveQuery_of_not (kind : Byte) (act : State → Answer) (h : canReceive s = false) : receiveQuery source kind act s = s := by
  rw [receiveQuery, if_neg (by simp [h])]

theorem receiveQuery_own (kind : Byte) (act : State → Answer) (hcan : canReceive s = true) (hown : source.toNat = s.startUp.address)
    (hconfig : s.startUp.lifecycle ≠ .config) (hservice : s.startUp.lifecycle ≠ .service) :
    receiveQuery source kind act s = judgeClash (receiverTo .waitIdle s) := by
  rw [receiveQuery, if_pos hcan, takeValid, if_pos (show source.toNat = (receiverTo .waitIdle s).startUp.address ∧ _ from
    ⟨hown, hconfig, hservice⟩)]

theorem receiveQuery_heard (kind : Byte) (act : State → Answer) (hcan : canReceive s = true) (hother : source.toNat ≠ s.startUp.address) :
    receiveQuery source kind act s =
      if (heardState s).startUp.lifecycle = .service then heardState s else respond source.toNat kind act (heardState s) := by
  rw [receiveQuery, if_pos hcan, takeValid, if_neg fun h => hother h.1]
  rfl

/-- Hearing a station keeps whether this one answers: JOINING answers as ISOLATED does (R186). -/
theorem answers_heardState (s : State) : (heardState s).startUp.lifecycle.answers = s.startUp.lifecycle.answers := by
  rw [heardState_lifecycle]
  split <;> simp [*, Lifecycle.answers]

theorem replySlots_heardState (s : State) : (heardState s).bus.replySlots = s.bus.replySlots := by rw [heardState_bus]

theorem counters_heardState (s : State) : (heardState s).counters = s.counters := by simp

theorem freeDraws_heardState (s : State) : (heardState s).freeDraws = s.freeDraws := by simp

theorem engine_heardState (s : State) : (heardState s).engine = s.engine := by simp

theorem cfg_heardState (s : State) : (heardState s).cfg = s.cfg := by simp [State.cfg]

theorem inService_heardState (s : State) : (heardState s).startUp.lifecycle.inService = s.startUp.lifecycle.inService := by
  rw [heardState_lifecycle]
  split <;> simp [*, Lifecycle.inService]

theorem receiveQuery_silent (kind : Byte) (act : State → Answer) (hcan : canReceive s = true) (hother : source.toNat ≠ s.startUp.address)
    (hsilent : s.startUp.lifecycle.answers = false) : receiveQuery source kind act s = heardState s := by
  have hno : respond source.toNat kind act (heardState s) = heardState s := if_neg (by rw [answers_heardState, hsilent]; simp)
  rw [receiveQuery_heard kind act hcan hother, hno, ite_self]

theorem receiveQuery_answers (kind : Byte) (act : State → Answer) (hcan : canReceive s = true) (hother : source.toNat ≠ s.startUp.address)
    (hanswers : s.startUp.lifecycle.answers = true) : receiveQuery source kind act s =
      if 2 ≤ s.bus.replySlots.length then countDropped (heardState s)
      else placeReply (buildFrame .reply s.startUp.address
        (replyBody source.toNat kind.toNat (act (heardState s)).result (act (heardState s)).data)) (act (heardState s)).state := by
  have hservice : (heardState s).startUp.lifecycle ≠ .service := fun h => by
    have := answers_heardState s
    rw [h, hanswers] at this
    cases this
  rw [receiveQuery_heard kind act hcan hother, if_neg hservice, respond, if_pos (by rw [answers_heardState, hanswers]),
    replySlots_heardState, (heardState_frame s).2.2.2.2.2.2.2.2.2.2.2.1]

/-- Settles O57: the ways of a query that is not answered, and the clash of one from the own address. -/
theorem queriesAreDroppedOrIgnored : Obligations.QueriesAreDroppedOrIgnored := by
  unfold Obligations.QueriesAreDroppedOrIgnored
  intro c source argument kind s hc
  obtain ⟨code, act, hexec⟩ := exec_query hc s
  refine ⟨_, rfl, fun hcan => ?_, fun hcan hother hanswers hfull => ?_, fun hcan hother hsilent => ?_,
    fun hcan hown hconfig hservice => ?_⟩
  · rw [hexec, receiveQuery_of_not code act hcan]
  · rw [hexec, receiveQuery_answers code act hcan hother hanswers, if_pos hfull]
    rw [countDropped, counters_heardState]
    rfl
  · rw [hexec, receiveQuery_silent code act hcan hother hsilent]
    rfl
  · have haddress : s.startUp.address < 64 := hown ▸ source.isLt
    have hfits : lengthFits .reply (replyBody 0 0 0 []).length = true := rfl
    have hreply : exec (.replyReceived (buildFrame .reply s.startUp.address (replyBody 0 0 0 []))) s =
        .next (judgeClash (receiverTo .waitIdle s)) := by
      change execReplyReceived _ s = _
      rw [execReplyReceived, receiveBytes_whole _ hcan (frameWhole_buildFrame hfits),
        checkFrame_own _ (frameValid_buildFrame haddress hfits nofun nofun) (frameSource_buildFrame .reply haddress _) hconfig hservice]
    rw [hexec, receiveQuery_own code act hcan hown hconfig hservice, hreply]

/-! ### A REPLY placed (R161, R162) -/

/-- The receiver of a station that answers is in WAIT_IDLE, so the REPLY waits (R154, R163). -/
theorem placeReply_busy (f : Frame) (h : s.bus.receiver ≠ .idle) :
    placeReply f s = { s with bus := { s.bus with replySlots := s.bus.replySlots ++ [f] } } := beginFrame_of_busy (.inl h)

/-- The REPLY slots hold these frames; nothing else moves. -/
def replied (l : List Frame) (s : State) : State := { s with bus := { s.bus with replySlots := l } }

/-- An action that is performed: its REPLY takes the free slot behind an older one. -/
theorem receiveQuery_done {kind : Byte} {act : State → Answer} {a : Answer} (hcan : canReceive s = true)
    (hother : source.toNat ≠ s.startUp.address) (hanswers : s.startUp.lifecycle.answers = true) (hfree : s.bus.replySlots.length < 2)
    (hact : act (heardState s) = a) (hreceiver : a.state.bus.receiver = (heardState s).bus.receiver)
    (hslots : a.state.bus.replySlots = (heardState s).bus.replySlots) : receiveQuery source kind act s =
      replied (s.bus.replySlots ++ [buildFrame .reply s.startUp.address (replyBody source.toNat kind.toNat a.result a.data)]) a.state := by
  rw [receiveQuery_answers kind act hcan hother hanswers, if_neg (by omega), hact,
    placeReply_busy _ (by rw [hreceiver, heardState_bus]; nofun), hslots, replySlots_heardState]
  rfl

/-- The action of an unknown request kind (R187). -/
theorem actionOf_unknown {kind : Byte} {argument : Half} (h : (Instr.unknown source kind argument).wf = true) (n : Nat) (u : State) :
    actionOf kind.toNat n u = answerUnknown u := by
  have hkind : kind.toNat = 0 ∨ 9 ≤ kind.toNat := by simpa [Instr.wf] using h
  unfold actionOf
  rw [if_neg (by omega), if_neg (by omega), if_neg (by omega), if_neg (by omega), if_neg (by omega), if_neg (by omega),
    if_neg (by omega), if_neg (by omega)]

/-! ### FBYP and CLST (R22, R141) -/

/-- What a forced change leaves pending: nothing, and no INTENT of it (R23, R125). -/
theorem forcedChange_cancels (s : State) : (forcedChange s).stagger.pending = none ∧
    (s.stagger.pending.isSome = true → (forcedChange s).bus.intentSlot = none) := by
  refine ⟨by simp [forcedChange], fun h => ?_⟩
  rw [forcedChange_bus]
  obtain ⟨p, hp⟩ := Option.isSome_iff_exists.mp h
  simp [cancelPending, hp, withdrawIntent]

/-- A change forced in BYPASS moves no output (R23). -/
theorem forcedChange_of_bypass (h : s.engine.applied = .bypass) : (forcedChange s).output = s.output := by
  simp [forcedChange, applyMode, h]

theorem forcedChange_wheel_rests (h : s.engine.applied ≠ .bypass) :
    (forcedChange s).output.wheel ≠ .running ∧ (forcedChange s).output.wheel ≠ .purging := by
  rw [forcedChange_wheel, if_neg h]
  cases s.output.wheel <;> simp [wheelAfter]

/-- The state FBYP leaves: a forced change, and the timer (R22). -/
def bypassForced (minutes : Nat) (s : State) : State :=
  { forcedChange s with engine := { (forcedChange s).engine with forceBypass := some (mins (min 240 minutes)) } }

theorem answerFbyp_forces {minutes : Nat} (h : minutes ≠ 0) (s : State) : answerFbyp minutes s = done (bypassForced minutes s) := by
  rw [answerFbyp, if_neg h]
  rfl

theorem bypassForced_engine (minutes : Nat) (s : State) : (bypassForced minutes s).engine = { s.engine with
    applied := .bypass, target := .bypass, dwell := 0, forceBypass := some (min 240 minutes * 60000) } := by
  rw [bypassForced, forcedChange_engine]
  rfl

/-- Settles O56: each action of R187 on the state that hearing the frame leaves, behind its REPLY. -/
theorem actingQueriesAct : Obligations.ActingQueriesAct := by
  unfold Obligations.ActingQueriesAct
  intro source argument s hcan hother hanswers hfree
  refine ⟨heardState s, rfl, ?_, ?_, fun hzero => ?_, fun hminutes => ?_, ?_, fun hwheel => ?_, fun hwheel => ?_, fun kind hkind => ?_⟩
  · change execClrc source argument s = _
    rw [execClrc, receiveQuery_done hcan hother hanswers hfree rfl rfl rfl]
    rfl
  · change execRstw source argument s = _
    rw [execRstw, receiveQuery_done hcan hother hanswers hfree rfl rfl rfl]
    rfl
  · change execFbyp source argument s = _
    rw [execFbyp, receiveQuery_done hcan hother hanswers hfree (if_pos hzero) rfl rfl]
    rfl
  · have hreplied := receiveQuery_done (source := source) (kind := 6) hcan hother hanswers hfree
      (answerFbyp_forces hminutes (heardState s)) (by simp [done, bypassForced]) (by simp [done, bypassForced])
    obtain ⟨hcancelled, hwithdrawn⟩ := forcedChange_cancels (heardState s)
    have hengine := bypassForced_engine argument.toNat (heardState s)
    rw [engine_heardState] at hengine
    refine ⟨_, congrArg Host.Outcome.next hreplied, rfl, ?_, hcancelled, ?_, fun hne => ⟨?_, ?_, fun hin => ?_⟩, fun hbypass => ?_, ?_⟩
    · exact hengine
    · exact fun h => hwithdrawn (by simpa using h)
    · exact (forcedChange_wheel_rests (s := heardState s) (by simpa using hne)).1
    · exact (forcedChange_wheel_rests (s := heardState s) (by simpa using hne)).2
    · rw [← cfg_heardState s]
      exact forcedChange_commands (s := heardState s) (by simpa using hne) ((inService_heardState s).trans hin)
    · exact forcedChange_of_bypass (s := heardState s) (by simpa using hbypass)
    · simp [replied, done, bypassForced]
  · change execFrel source argument s = _
    rw [execFrel, receiveQuery_done hcan hother hanswers hfree rfl rfl rfl]
    rfl
  · change execClst source argument s = _
    have hact : answerClst (heardState s) = done (heardState s) := by
      rw [answerClst, if_neg (by simpa using hwheel)]
    rw [execClst, receiveQuery_done hcan hother hanswers hfree hact rfl rfl]
    rfl
  · have hact : answerClst (heardState s) = done (moveWheel .stopped (heardState s)) := by
      rw [answerClst, if_pos (by simpa using hwheel)]
    have hreplied := receiveQuery_done (source := source) (kind := 8) hcan hother hanswers hfree hact rfl rfl
    refine ⟨_, congrArg Host.Outcome.next hreplied, rfl, rfl, rfl, rfl, rfl, ?_, ?_⟩
    · change idleStart (heardState s) = _
      rw [idleStart, cfg_heardState, inService_heardState]
    · simp [replied, done]
  · change execUnknown source kind argument s = _
    rw [execUnknown, receiveQuery_done hcan hother hanswers hfree (actionOf_unknown hkind _ _) rfl rfl]
    rfl

end Sys2Proof.Machine
end


-- ==== Sys2Proof/Proofs/Replies.lean ====
section
/-! SUPPORT. The data of the reading queries: the status record, the counters and a peer record, byte by byte (R93, R188). -/

namespace Sys2Proof.Machine

variable {s t : State}

/-! ### Fields of the data -/

/-- The two bytes of a field hold its value modulo 65536. -/
theorem bytes_mod (n : Nat) : (byteOf (n / 256)).toNat * 256 + (byteOf n).toNat = n % 65536 := by
  rw [byteOf_toNat, byteOf_toNat]
  omega

theorem signed16_bytes {i : Int} (hlo : -32768 ≤ i) (hhi : i ≤ 32767) {n : Nat} (hn : n = (BitVec.ofInt 16 i).toNat) :
    signed16 ((byteOf (n / 256)).toNat * 256 + (byteOf n).toNat) = i := by
  rw [bytes_of_lt (by rw [hn]; exact Nat.le_of_lt_succ (BitVec.ofInt 16 i).isLt), hn, signed16_ofInt ⟨hlo, hhi⟩]

theorem ite_le (p : Prop) [Decidable p] (n : Nat) : (if p then n else 0) ≤ n := by
  split
  · exact le_rfl
  · exact Nat.zero_le n

/-- The eight flags of a fault set, the highest first (R160, R188). -/
theorem toByte_toNat (x : FaultSet) : x.toByte.toNat =
    (if x.sensor = true then 128 else 0) + (if x.reference = true then 64 else 0) + (if x.wheelStall = true then 32 else 0) +
      (if x.damper = true then 16 else 0) + (if x.addressClash = true then 8 else 0) + (if x.configDefault = true then 4 else 0) +
      (if x.busStuck = true then 2 else 0) + (if x.isolated = true then 1 else 0) :=
  byteOf_of_lt (add_le_add (add_le_add (add_le_add (add_le_add (add_le_add (add_le_add (add_le_add (ite_le _ 128) (ite_le _ 64))
    (ite_le _ 32)) (ite_le _ 16)) (ite_le _ 8)) (ite_le _ 4)) (ite_le _ 2)) (ite_le _ 1))

/-! ### The status record (R188) -/

/-- The rpm field holds the last speed when it fits. -/
theorem rpmBytes_eq (s : State) : ∃ n, rpmBytes s = halfOf n ∧ (s.rotation.rpm ≤ 65535 → n = s.rotation.rpm) := by
  unfold rpmBytes
  split
  · exact ⟨_, rfl, fun _ => rfl⟩
  · exact ⟨_, rfl, fun h => absurd h ‹_›⟩

/-- To, Wo and Ho, 0 when INVALID (R71). -/
theorem referenceBytes_eq (r : Reference) : ∃ t w h : Int, referenceBytes r = signedHalfOf t ++ signedHalfOf w ++ signedHalfOf h ∧
    (∀ p ∈ r.point, p.t = t ∧ p.w = w ∧ p.h = h) ∧ (r.point = none → t = 0 ∧ w = 0 ∧ h = 0) := by
  unfold referenceBytes
  cases hp : r.point with
  | none => exact ⟨0, 0, 0, rfl, nofun, fun _ => ⟨rfl, rfl, rfl⟩⟩
  | some p => exact ⟨p.t, p.w, p.h, rfl, fun q hq => by cases hq; exact ⟨rfl, rfl, rfl⟩, nofun⟩

theorem reportedAverage_eq (v : Option Int) (free : Half) : ∃ n, reportedAverage v free = halfOf n ∧
    ∀ x ∈ v, n = (BitVec.ofInt 16 x).toNat := by
  cases v with
  | none => exact ⟨_, rfl, nofun⟩
  | some x => exact ⟨_, rfl, fun y hy => by cases hy; rfl⟩

theorem pendingByte_eq (s : State) : (∀ p ∈ s.stagger.pending, (pendingByte s).toNat = p.kind.code * 16 + p.phase.code) ∧
    (s.stagger.pending = none → (pendingByte s).toNat < 16) := by
  unfold pendingByte
  cases s.stagger.pending with
  | none =>
    refine ⟨nofun, fun _ => ?_⟩
    have hlt := (Config.absentPhase s.freeDraws).isLt
    dsimp only
    rw [byteOf_of_lt (by omega)]
    exact hlt
  | some p =>
    refine ⟨fun q hq => ?_, nofun⟩
    cases hq
    refine byteOf_of_lt ?_
    cases p.kind <;> cases p.phase <;> decide

/-- Hr, 0 without the averages it needs (R188); an enthalpy fits its field. -/
theorem returnEnthalpy_read (s : State) :
    (∀ v ∈ s.reading .retT, ∀ w ∈ s.reading .retW, returnEnthalpy s = some (enthalpy v w)) ∧
    (s.reading .retT = none ∨ s.reading .retW = none → returnEnthalpy s = none) := by
  refine ⟨fun v hv w hw => ?_, fun h => ?_⟩
  · rw [returnEnthalpy, Option.mem_def.mp hv, Option.mem_def.mp hw]
  · unfold returnEnthalpy
    rcases h with h | h
    · rw [h]
    · rw [h]
      cases s.reading .retT <;> rfl

theorem quantityCode_le (q : Quantity) (w : Windows) : (w.get q).state.code ≤ 3 := by cases (w.get q).state <;> decide

/-- The 43 bytes of the status record, in the order of R188. -/
theorem statusRecord_bytes (s : State) : ∃ (rpm retT retW : Nat) (t w h : Int),
    (s.rotation.rpm ≤ 65535 → rpm = s.rotation.rpm) ∧
    (∀ x ∈ s.reading .retT, retT = (BitVec.ofInt 16 x).toNat) ∧ (∀ x ∈ s.reading .retW, retW = (BitVec.ofInt 16 x).toNat) ∧
    (∀ p ∈ s.reconciler.reference.point, p.t = t ∧ p.w = w ∧ p.h = h) ∧
    (s.reconciler.reference.point = none → t = 0 ∧ w = 0 ∧ h = 0) ∧
    statusRecord s =
      [byteOf (s.startUp.lifecycle.code + (if s.table.lone = true then 128 else 0)),
       byteOf (s.engine.applied.code * 16 + s.engine.target.mode.code), pendingByte s, byteOf s.output.wheel.code, byteOf (rpm / 256),
       byteOf (rpm), byteOf s.reconciler.reference.code, byteOf ((BitVec.ofInt 16 t).toNat / 256), byteOf ((BitVec.ofInt 16 t).toNat),
       byteOf ((BitVec.ofInt 16 w).toNat / 256), byteOf ((BitVec.ofInt 16 w).toNat), byteOf ((BitVec.ofInt 16 h).toNat / 256),
       byteOf ((BitVec.ofInt 16 h).toNat), byteOf s.reconciler.count, byteOf (retT / 256), byteOf (retT), byteOf (retW / 256),
       byteOf (retW), byteOf ((BitVec.ofInt 16 ((returnEnthalpy s).getD 0)).toNat / 256),
       byteOf ((BitVec.ofInt 16 ((returnEnthalpy s).getD 0)).toNat), byteOf (demandHeat s / 256), byteOf (demandHeat s),
       byteOf (demandCool s / 256), byteOf (demandCool s), byteOf (s.allocator.relief.value / 256), byteOf (s.allocator.relief.value),
       byteOf s.allocator.relief.participants.length, byteOf (s.allocator.relief.ownShare / 256), byteOf (s.allocator.relief.ownShare),
       byteOf (s.allocator.relief.grant / 256), byteOf (s.allocator.relief.grant), byteOf (s.allocator.wfc.value / 256),
       byteOf (s.allocator.wfc.value), byteOf s.allocator.wfc.participants.length, byteOf (s.allocator.wfc.ownShare / 256),
       byteOf (s.allocator.wfc.ownShare), byteOf (s.allocator.wfc.grant / 256), byteOf (s.allocator.wfc.grant),
       byteOf ((s.scanner.windows.get .outT).state.code * 64 + (s.scanner.windows.get .outW).state.code * 16 +
         (s.scanner.windows.get .retT).state.code * 4 + (s.scanner.windows.get .retW).state.code),
       byteOf ((s.scanner.windows.get .exhT).state.code * 64 + (s.scanner.windows.get .heatDem).state.code * 16 +
         (s.scanner.windows.get .coolDem).state.code * 4 + (s.scanner.windows.get .bypFb).state.code),
       byteOf ((s.scanner.windows.get .oaFb).state.code * 64), (faultsPresent s).toByte, s.responder.sticky.toByte] := by
  obtain ⟨rpm, hrpm, hfast⟩ := rpmBytes_eq s
  obtain ⟨t, w, h, hreference, hpoint, hinvalid⟩ := referenceBytes_eq s.reconciler.reference
  obtain ⟨retT, hretT, hretTread⟩ := reportedAverage_eq (s.reading .retT) (Config.reportedReturnTemp s.freeDraws)
  obtain ⟨retW, hretW, hretWread⟩ := reportedAverage_eq (s.reading .retW) (Config.reportedReturnMoisture s.freeDraws)
  refine ⟨rpm, retT, retW, t, w, h, hfast, hretTread, hretWread, hpoint, hinvalid, ?_⟩
  rw [statusRecord, hrpm, hreference, hretT, hretW]
  rfl

theorem length_statusRecord (s : State) : (statusRecord s).length = 43 := by
  obtain ⟨rpm, retT, retW, t, w, h, -, -, -, -, -, hr⟩ := statusRecord_bytes s
  rw [hr]
  rfl

/-- The four bytes of an observation, 0 when it is absent (R160). -/
theorem observationBytes_eq (o : Option Observation) : ∃ n m, observationBytes o = halfOf n ++ halfOf m ∧
    (∀ x ∈ o, n = (BitVec.ofInt 16 x.t).toNat ∧ m = x.w) ∧ (o = none → n = 0 ∧ m = 0) := by
  cases o with
  | none => exact ⟨0, 0, rfl, nofun, fun _ => ⟨rfl, rfl⟩⟩
  | some x => exact ⟨_, _, rfl, fun y hy => by cases hy; exact ⟨rfl, rfl⟩, nofun⟩

/-- Settles O55: each REPLY takes its slot on the state that hearing the frame leaves, and the data are read back byte by byte. -/
theorem readingQueriesAreAnswered : Obligations.ReadingQueriesAreAnswered := by
  unfold Obligations.ReadingQueriesAreAnswered
  refine ⟨fun source argument s hcan hother hanswers hfree => ⟨heardState s, rfl, ?_, ?_, fun r hrecord => ?_, fun hpast => ?_⟩,
    fun s => ?status, fun c => ?counters, fun index held p => ?record⟩
  · change execRdst source argument s = _
    rw [execRdst, receiveQuery_done hcan hother hanswers hfree rfl rfl rfl, ← freeDraws_heardState s]
    rfl
  · change execRdct source argument s = _
    rw [execRdct, receiveQuery_done hcan hother hanswers hfree rfl rfl rfl, ← counters_heardState s]
    rfl
  · change execRdpr source argument s = _
    have hact : answerRdpr argument.toNat (heardState s) =
        { state := heardState s, result := 0, data := recordBytes argument.toNat s.table.records.length r } := by
      simp [answerRdpr, hrecord]
    rw [execRdpr, receiveQuery_done hcan hother hanswers hfree hact rfl rfl]
    rfl
  · change execRdpr source argument s = _
    have hact : answerRdpr argument.toNat (heardState s) = { state := heardState s, result := 1, data := [] } := by
      simp [answerRdpr, List.getElem?_eq_none hpast]
    rw [execRdpr, receiveQuery_done hcan hother hanswers hfree hact rfl rfl]
    rfl
  case status =>
    obtain ⟨rpm, retT, retW, t, w, h, hfast, hretT, hretW, hpoint, hinvalid, hr⟩ := statusRecord_bytes s
    obtain ⟨hpending, hfree⟩ := pendingByte_eq s
    obtain ⟨henthalpy, hnone⟩ := returnEnthalpy_read s
    have hcode := quantityCode_le (w := s.scanner.windows)
    refine ⟨_, rfl, length_statusRecord s, ?_⟩
    rw [hr]
    simp only [halfAt, byteAt_succ, byteAt_zero]
    refine ⟨byteOf_of_lt ?_, byteOf_of_lt ?_, hpending, hfree, byteOf_of_lt ?_, fun hle => ?_, byteOf_of_lt ?_,
      fun p hp => ?_, fun hinv => ?_, byteOf_toNat _, fun v hv hlo hhi => signed16_bytes hlo hhi (hretT v hv),
      fun v hv hlo hhi => signed16_bytes hlo hhi (hretW v hv), fun v hv w hw => ?_, fun hno => ?_, bytes_mod _, bytes_mod _,
      bytes_mod _, byteOf_toNat _, bytes_mod _, bytes_mod _, bytes_mod _, byteOf_toNat _, bytes_mod _, bytes_mod _, fun c hc => ?_,
      fun b hb => ⟨?_, ?_⟩⟩
    · cases s.startUp.lifecycle <;> cases s.table.lone <;> decide
    · cases s.engine.applied <;> cases s.engine.target <;> decide
    · cases s.output.wheel <;> decide
    · exact (bytes_mod rpm).trans (by rw [hfast hle]; omega)
    · cases s.reconciler.reference <;> simp [Reference.code]
    · obtain ⟨ht, hw, hh⟩ := hpoint p hp
      exact ⟨fun hlo hhi => signed16_bytes hlo hhi (by rw [ht]), fun hlo hhi => signed16_bytes hlo hhi (by rw [hw]),
        fun hlo hhi => signed16_bytes hlo hhi (by rw [hh])⟩
    · obtain ⟨rfl, rfl, rfl⟩ := hinvalid (by rw [hinv]; rfl)
      exact ⟨rfl, rfl, rfl⟩
    · obtain ⟨hlo, hhi⟩ := enthalpy_mem v w
      exact signed16_bytes (by omega) (by omega) (by rw [henthalpy v hv w hw]; rfl)
    · rw [bytes_mod, hnone hno]
      rfl
    · simp only [hc]
      exact ⟨byteOf_of_lt (by have := hcode .outT; have := hcode .outW; have := hcode .retT; have := hcode .retW; omega),
        byteOf_of_lt (by have := hcode .exhT; have := hcode .heatDem; have := hcode .coolDem; have := hcode .bypFb; omega),
        byteOf_of_lt (by have := hcode .oaFb; omega)⟩
    · exact (toByte_toNat _).trans (hb _).symm
    · exact (toByte_toNat _).trans (hb _).symm
  case counters =>
    exact ⟨_, rfl, rfl, bytes_mod _, bytes_mod _, bytes_mod _, bytes_mod _, bytes_mod _, bytes_mod _, bytes_mod _, bytes_mod _⟩
  case record =>
    obtain ⟨n, m, hobservation, hpresent, habsent⟩ := observationBytes_eq p.said.observation
    have hr : recordBytes index held p =
        [byteOf index, byteOf held, byteOf p.address, byteOf ((if p.sameRiser then 2 else 0) + (if p.samePlant then 1 else 0)),
          byteOf p.said.riserGroup, byteOf p.said.plantGroup] ++ halfOf p.said.height ++ [byteOf p.said.period, byteOf p.state.code] ++
          halfOf (min 65535 (p.silence / 1000)) ++ [byteOf p.said.sequence, byteOf p.gapCount, byteOf (stateByte p.said)] ++
          (halfOf n ++ halfOf m) ++ claimBytes p.said.relief ++ claimBytes p.said.wfc ++ [p.said.faults] := by
      rw [recordBytes, hobservation]
    refine ⟨_, rfl, ?_⟩
    rw [hr]
    simp only [halfAt, halfOf, claimBytes, List.cons_append, List.nil_append, byteAt_succ, byteAt_zero]
    refine ⟨rfl, byteOf_toNat _, byteOf_toNat _, byteOf_toNat _, byteOf_of_lt ?_, byteOf_toNat _, byteOf_toNat _, bytes_mod _,
      byteOf_toNat _, byteOf_of_lt ?_, (bytes_mod _).trans (by omega), byteOf_toNat _, byteOf_toNat _, byteOf_toNat _,
      fun o ho => ?_, fun ho => ?_, bytes_mod _, bytes_mod _, bytes_mod _, bytes_mod _, bytes_mod _, bytes_mod _, trivial⟩
    · cases p.sameRiser <;> cases p.samePlant <;> decide
    · cases p.state <;> decide
    · obtain ⟨hn, rfl⟩ := hpresent o ho
      exact ⟨fun hlo hhi => signed16_bytes hlo hhi hn, bytes_mod _⟩
    · obtain ⟨rfl, rfl⟩ := habsent ho
      exact ⟨rfl, rfl⟩

end Sys2Proof.Machine
end
